-- ==== Sys2Proof/Word.lean ====
section
/-! DEFINITION. The widths of the Hestia block's values (10_state.md) and the eight-channel array of rule R39. -/

namespace Sys2Proof

/-- A byte of a request, a response or an 8-bit register (R8). -/
abbrev Byte := BitVec 8

/-- A 16-bit register or a response value (R47). -/
abbrev Word := BitVec 16

/-- A raw reading of the ADC, `RAW_W` = 12 bits unsigned (R6, R16). -/
abbrev Code := BitVec 12

/-- The storage of one EMA accumulator: 12 + EMA_K bits with the largest K, 16 (R17, decision D5). A channel's register is the
low 12 + EMA_K[i] bits of it: `accValue` reads no other bit and `accStore` writes the others as 0 (log 8). -/
abbrev Acc := BitVec 28

/-- A channel number, 0..7 (R6: N = 8). -/
abbrev Chan := Fin 8

/-- One element for each of the eight channels (R39: `raw`, `acc`, `filt` and the per-channel parameters). -/
structure Lanes (α : Type) where
  c0 : α
  c1 : α
  c2 : α
  c3 : α
  c4 : α
  c5 : α
  c6 : α
  c7 : α
deriving DecidableEq, Repr, Inhabited

namespace Lanes

variable {α : Type}

/-- The element of channel `i`, with no aliases and no hardwired elements (R39). -/
def get (l : Lanes α) (i : Chan) : α :=
  match i with
  | 0 => l.c0
  | 1 => l.c1
  | 2 => l.c2
  | 3 => l.c3
  | 4 => l.c4
  | 5 => l.c5
  | 6 => l.c6
  | 7 => l.c7

/-- The array whose element for channel `i` is `f i`. -/
def ofFn (f : Chan → α) : Lanes α := ⟨f 0, f 1, f 2, f 3, f 4, f 5, f 6, f 7⟩

/-- The array with one value on every channel. -/
def replicate (a : α) : Lanes α := ofFn fun _ => a

end Lanes

/-- Every channel, in order. -/
def allChans : List Chan := [0, 1, 2, 3, 4, 5, 6, 7]

end Sys2Proof
end

