-- ==== Sys2Proof/Machine/Operands.lean ====
section
/-! DEFINITION. The operand forms of a request (30_encoding.md rules R62 to R65), the byte order of the interface (20_memory.md
rules R45, R47) and the integer primitives of 00_scope.md rule R9. -/

namespace Sys2Proof

/-- FMT1: `imm8 = p0`, the first payload byte as it is (R63). None when `plen < 1` (R64); later bytes are ignored (R65). -/
def imm8 (payload : List Byte) : Option Byte :=
  match payload with
  | p0 :: _ => some p0
  | [] => none

/-- The two bytes of a little-endian pair: `lo + 256 * hi` (R45, R63). -/
def wordOfBytes (lo hi : Byte) : Word := hi ++ lo

/-- FMT2: `imm16 = {p1, p0}` (R63). None when `plen < 2` (R64); later bytes are ignored (R65). -/
def imm16 (payload : List Byte) : Option Word :=
  match payload with
  | p0 :: p1 :: _ => some (wordOfBytes p0 p1)
  | _ => none

/-- Bits 7:0 of a 16-bit value, its first byte on the interface (R45). -/
def loByte (v : Word) : Byte := v.extractLsb' 0 8

/-- Bits 15:8 of a 16-bit value, its second byte on the interface (R45). -/
def hiByte (v : Word) : Byte := v.extractLsb' 8 8

/-- `zext_16`: a narrower register zero-extended to the 16 bits of a response (R8, R47). -/
def zext16 {w : Nat} (v : BitVec w) : Word := v.setWidth 16

/-- Bit i of a channel mask (R8: a mask holds channel i at bit i). -/
def maskBit (m : Byte) (i : Chan) : Bool := m.getLsbD i.val

/-- `clamp(v, lo, hi)` of R9. -/
def clamp (v lo hi : Int) : Int := if v < lo then lo else if v > hi then hi else v

/-- `asr(v, s) = floor(v / 2^s)`, rounding toward minus infinity (R9; the spec's decision D14, log 13). Division of `Int`
by a positive number is the floor. -/
def asr (v : Int) (s : Nat) : Int := v / 2 ^ s

end Sys2Proof
end

