-- ==== Sys2Proof/Syntax.lean ====
section
/-! DEFINITION. The commands of the block, one constructor per row of opcode_table.json (30_encoding.md rule R66). -/

namespace Sys2Proof

/-- A command as the dispatcher sees it. `RD_RAW i` and `RD_FILT i` are a row of the table, and a constructor, for each
channel. The operand of a write is `none` when the request is under-length (R64); surplus payload bytes are no part
of a command (R65). Log 18. -/
inductive Instr where
  /-- RD_RAW 0, opcode 0x01 (R101). -/
  | rdRaw0
  /-- RD_RAW 1, opcode 0x02 (R101). -/
  | rdRaw1
  /-- RD_RAW 2, opcode 0x03 (R101). -/
  | rdRaw2
  /-- RD_RAW 3, opcode 0x04 (R101). -/
  | rdRaw3
  /-- RD_RAW 4, opcode 0x05 (R101). -/
  | rdRaw4
  /-- RD_RAW 5, opcode 0x06 (R101). -/
  | rdRaw5
  /-- RD_RAW 6, opcode 0x07 (R101). -/
  | rdRaw6
  /-- RD_RAW 7, opcode 0x08 (R101). -/
  | rdRaw7
  /-- RD_VER, opcode 0x10 (R103). -/
  | rdVer
  /-- RD_STAT, opcode 0x11 (R104). -/
  | rdStat
  /-- RD_MODE, opcode 0x20 (R105). -/
  | rdMode
  /-- RD_SP, opcode 0x21 (R106). -/
  | rdSp
  /-- RD_SENS, opcode 0x22 (R107). -/
  | rdSens
  /-- RD_PWM, opcode 0x23 (R108). -/
  | rdPwm
  /-- RD_MAX, opcode 0x24 (R109). -/
  | rdMax
  /-- RD_FILT 0, opcode 0x31 (R102). -/
  | rdFilt0
  /-- RD_FILT 1, opcode 0x32 (R102). -/
  | rdFilt1
  /-- RD_FILT 2, opcode 0x33 (R102). -/
  | rdFilt2
  /-- RD_FILT 3, opcode 0x34 (R102). -/
  | rdFilt3
  /-- RD_FILT 4, opcode 0x35 (R102). -/
  | rdFilt4
  /-- RD_FILT 5, opcode 0x36 (R102). -/
  | rdFilt5
  /-- RD_FILT 6, opcode 0x37 (R102). -/
  | rdFilt6
  /-- RD_FILT 7, opcode 0x38 (R102). -/
  | rdFilt7
  /-- WR_MODE m, opcode 0x40, FMT1 (R111). -/
  | wrMode (m : Option Byte)
  /-- WR_SP v, opcode 0x41, FMT2 (R112). -/
  | wrSp (v : Option Word)
  /-- WR_SENS n, opcode 0x42, FMT1 (R113). -/
  | wrSens (n : Option Byte)
  /-- WR_PWM d, opcode 0x43, FMT1 (R114). -/
  | wrPwm (d : Option Byte)
  /-- WR_MAX v, opcode 0x44, FMT2 (R115). -/
  | wrMax (v : Option Word)
  /-- SRST, opcode 0x50 (R116). -/
  | srst
  /-- An opcode that no other row assigns (R68, R117), with that opcode. -/
  | unknown (op : Byte)
deriving DecidableEq, Repr

/-- The ranges of unknown opcodes that rule R68 lists, bounds inclusive. -/
def unknownRanges : List (Nat × Nat) :=
  [(0x00, 0x00), (0x09, 0x0F), (0x12, 0x1F), (0x25, 0x30), (0x39, 0x3F), (0x45, 0x4F), (0x51, 0xFF)]

/-- The opcode is unknown (R68). -/
def unknownOpcode (op : Byte) : Bool := unknownRanges.any fun r => r.1 ≤ op.toNat && op.toNat ≤ r.2

end Sys2Proof
end

