-- ==== Sys2Proof/Decode.lean ====
section
/-! DEFINITION. The decoder of a request and, after it, the encoder (30_encoding.md rules R60 to R68). -/

namespace Sys2Proof

/-- Why the decoder refuses the bytes of a request. -/
inductive DecodeError where
  /-- There is no opcode byte: `req_len = 0`, outside the port's range (R13, U17). -/
  | noOpcode
deriving DecidableEq, Repr

/-- The opcode map of R66, with the channel numbers of R67, applied to an opcode and its payload bytes. Every opcode that the
map does not assign is unknown (R68). -/
def decodeOpcode (op : Byte) (payload : List Byte) : Instr :=
  match op.toNat with
  | 0x01 => .rdRaw0
  | 0x02 => .rdRaw1
  | 0x03 => .rdRaw2
  | 0x04 => .rdRaw3
  | 0x05 => .rdRaw4
  | 0x06 => .rdRaw5
  | 0x07 => .rdRaw6
  | 0x08 => .rdRaw7
  | 0x10 => .rdVer
  | 0x11 => .rdStat
  | 0x20 => .rdMode
  | 0x21 => .rdSp
  | 0x22 => .rdSens
  | 0x23 => .rdPwm
  | 0x24 => .rdMax
  | 0x31 => .rdFilt0
  | 0x32 => .rdFilt1
  | 0x33 => .rdFilt2
  | 0x34 => .rdFilt3
  | 0x35 => .rdFilt4
  | 0x36 => .rdFilt5
  | 0x37 => .rdFilt6
  | 0x38 => .rdFilt7
  | 0x40 => .wrMode (imm8 payload)
  | 0x41 => .wrSp (imm16 payload)
  | 0x42 => .wrSens (imm8 payload)
  | 0x43 => .wrPwm (imm8 payload)
  | 0x44 => .wrMax (imm16 payload)
  | 0x50 => .srst
  | _ => .unknown op

/-- The instruction that the bytes of a request stand for (R60): the opcode byte, then the payload. -/
def decode (bytes : List Byte) : Except DecodeError Instr :=
  match bytes with
  | [] => .error .noOpcode
  | op :: payload => .ok (decodeOpcode op payload)

/-- The payload bytes of a one-byte operand (R63). -/
def encodeImm8 : Option Byte → List Byte
  | none => []
  | some p0 => [p0]

/-- The payload bytes of a two-byte operand, low byte first (R63). -/
def encodeImm16 : Option Word → List Byte
  | none => []
  | some v => [loByte v, hiByte v]

/-- The opcode of an instruction (R66). -/
def opcodeOf : Instr → Byte
  | .rdRaw0 => 0x01
  | .rdRaw1 => 0x02
  | .rdRaw2 => 0x03
  | .rdRaw3 => 0x04
  | .rdRaw4 => 0x05
  | .rdRaw5 => 0x06
  | .rdRaw6 => 0x07
  | .rdRaw7 => 0x08
  | .rdVer => 0x10
  | .rdStat => 0x11
  | .rdMode => 0x20
  | .rdSp => 0x21
  | .rdSens => 0x22
  | .rdPwm => 0x23
  | .rdMax => 0x24
  | .rdFilt0 => 0x31
  | .rdFilt1 => 0x32
  | .rdFilt2 => 0x33
  | .rdFilt3 => 0x34
  | .rdFilt4 => 0x35
  | .rdFilt5 => 0x36
  | .rdFilt6 => 0x37
  | .rdFilt7 => 0x38
  | .wrMode _ => 0x40
  | .wrSp _ => 0x41
  | .wrSens _ => 0x42
  | .wrPwm _ => 0x43
  | .wrMax _ => 0x44
  | .srst => 0x50
  | .unknown op => op

/-- The payload bytes of an instruction (R62). -/
def payloadOf : Instr → List Byte
  | .wrMode m => encodeImm8 m
  | .wrSp v => encodeImm16 v
  | .wrSens n => encodeImm8 n
  | .wrPwm d => encodeImm8 d
  | .wrMax v => encodeImm16 v
  | .rdRaw0 | .rdRaw1 | .rdRaw2 | .rdRaw3 | .rdRaw4 | .rdRaw5 | .rdRaw6 | .rdRaw7 => []
  | .rdVer | .rdStat | .rdMode | .rdSp | .rdSens | .rdPwm | .rdMax => []
  | .rdFilt0 | .rdFilt1 | .rdFilt2 | .rdFilt3 | .rdFilt4 | .rdFilt5 | .rdFilt6 | .rdFilt7 => []
  | .srst => []
  | .unknown _ => []

/-- The request that carries an instruction, with no surplus payload (R62). -/
def encode (i : Instr) : List Byte := opcodeOf i :: payloadOf i

/-- The bytes of a request of three bytes, the longest format (FMT2), whose bits are `w` with bit 0 the least significant bit
of the first byte; the bits from `nbits` on are 0. -/
def requestBytes (nbits w : Nat) : List Byte :=
  let v := BitVec.ofNat 24 (w % 2 ^ nbits)
  [v.extractLsb' 0 8, v.extractLsb' 8 8, v.extractLsb' 16 8]

/-- The instruction the decoder reads from a table word: the request of `requestBytes`. -/
def decodeTableWord (nbits w : Nat) : Option Instr :=
  match decode (requestBytes nbits w) with
  | .ok i => some i
  | .error _ => none

end Sys2Proof
end

