-- ==== Sys2Proof/Machine/Ports.lean ====
section
/-! DEFINITION. The input ports of one step (10_state.md rule R13). -/

namespace Sys2Proof

/-- One conversion batch: `conv_chan_valid` and `conv_data` (R13). -/
structure Batch where
  /-- `conv_chan_valid`: bit i = 1 when the batch carries a reading for channel i. -/
  chanValid : Byte
  /-- `conv_data[i]`, read only where `chanValid` has bit i set. -/
  data : Lanes Code
deriving DecidableEq, Repr, Inhabited

/-- The levels of the input ports in one step (R13). A strobe and the data that only that strobe makes meaningful
are one `Option`: `conv` is `conv_valid` with the batch, `rdCount` is `rd_valid` with `rd_count`, `req` is `req_valid` with
the bytes of the request (`req_len` is their number). -/
structure Inputs where
  /-- `rst`. -/
  rst : Bool
  /-- `conv_valid`, `conv_chan_valid`, `conv_data`. -/
  conv : Option Batch
  /-- `tmr_tick`. -/
  tick : Bool
  /-- `cmp_wave`: a level under no law (R128, 93_implementation_defined.md U8). -/
  cmpWave : Bool
  /-- `rd_valid`, `rd_count`. -/
  rdCount : Option Nat
  /-- `req_valid`, `req_len`, `req_byte[]`. -/
  req : Option (List Byte)
deriving DecidableEq, Repr, Inhabited

/-- A step in which no input strobe is asserted and `cmp_wave` has the given level. -/
def Inputs.quiet (wave : Bool) : Inputs :=
  { rst := false, conv := none, tick := false, cmpWave := wave, rdCount := none, req := none }

end Sys2Proof
end

