-- ==== Sys2Proof/Config.lean ====
section
/-! DEFINITION. The implementation parameters of 00_scope.md rule R6, the reference configuration REFCFG, and the one free
value of the model. -/

namespace Sys2Proof

/-- The parameters of 00_scope.md rule R6 that the source leaves OPEN. They are fixed at build time; the model takes
them as an argument and carries them in its state (log 3). `N`, `RAW_W`, `MIN_OUT` and `MAX_OUT` are fixed numbers. -/
structure Params where
  /-- `EMA_K[i]`, 1..16. -/
  emaK : Lanes Nat
  /-- `LPE[i]`. -/
  lpe : Lanes Bool
  /-- `CLAMP_THR[i]`, 0..4095. -/
  clampThr : Lanes Nat
  /-- `TEMP_MASK`: bit i = 1 when the Safety Monitor compares channel i. -/
  tempMask : Byte
  /-- `VI_MASK`: the voltage and current channels. -/
  viMask : Byte
  /-- `P_GAIN`, 0..255. -/
  pGain : Nat
  /-- `I_SHIFT`, 0..17. -/
  iShift : Nat
  /-- `MIN_ADC`. -/
  minAdc : Nat
  /-- `MAX_ADC`, at least `MIN_ADC` and at most 4095. -/
  maxAdc : Nat
  /-- `TICK_DIV_M`, 1..65535. -/
  tickDivM : Nat
  /-- `DEFAULT_SET_POINT`, 0..65535. -/
  defaultSetPoint : Nat
  /-- `DEFAULT_CONTROL_SENSOR`, 0..7. -/
  defaultControlSensor : Nat
  /-- `DEFAULT_PWM_DUTY`, 0..255. -/
  defaultPwmDuty : Nat
  /-- `DEFAULT_MAX_TEMP`, 1..65535. -/
  defaultMaxTemp : Nat
  /-- `FW_VERSION`, 0..65535. -/
  fwVersion : Nat
  /-- `MAX_PAYLOAD`, at least 2. -/
  maxPayload : Nat
deriving DecidableEq, Repr

/-- `MIN_OUT` (R6, fixed). -/
def minOut : Int := 0

/-- `MAX_OUT` (R6, fixed). -/
def maxOut : Int := 1000

/-- The reference configuration REFCFG of R6. None of its values comes from the source (log 3). -/
def Params.refcfg : Params :=
  { emaK := Lanes.replicate 4, lpe := Lanes.replicate true, clampThr := Lanes.replicate 4000,
    tempMask := 0x0F, viMask := 0xC0, pGain := 2, iShift := 3, minAdc := 16, maxAdc := 4000, tickDivM := 4,
    defaultSetPoint := 0, defaultControlSensor := 0, defaultPwmDuty := 0, defaultMaxTemp := 3800,
    fwVersion := 0x0107, maxPayload := 2 }

/-- DESIGN CHOICE, safe (log 2): the port samples of the steps for which no sample is listed. Nothing is known of them:
the collaborators are input streams under no law (R128). -/
opaque Config.freeInputs : Nat → Inputs

end Sys2Proof
end

