-- ==== Sys2Proof/Machine/State.lean ====
section
/-! DEFINITION. The state of the block as plain data (10_state.md), the reasons a step can stop, and the state after reset. -/

namespace Sys2Proof.Machine

/-- `heater_mode`: `Off = 0`, `PWM = 1`, `PID = 2`; code 3 is never held (R21; log 9). -/
inductive HeaterMode where
  | off
  | pwm
  | pid
deriving DecidableEq, Repr

/-- The registers of rules R16 to R34. -/
structure Regs where
  /-- R16: the last captured raw reading of each channel. -/
  raw : Lanes Code
  /-- R17: the EMA accumulator of each channel, its register the low 12 + EMA_K[i] bits (`accValue`, `accStore`; log 8). -/
  acc : Lanes Acc
  /-- R18: the last EMA output of each channel. -/
  filt : Lanes Code
  /-- R19: the PID target. -/
  setPoint : Word
  /-- R20: the channel whose `raw` the PID controller reads. -/
  controlSensor : BitVec 3
  /-- R21. -/
  heaterMode : HeaterMode
  /-- R22: the software PWM duty. -/
  pwmDuty : Byte
  /-- R23: the over-temperature threshold; 0 disables the interlock. -/
  maxTemp : Word
  /-- R24: the latched flag status.MaxTempTripped. -/
  trip : Bool
  /-- R26: the PI integrator, a signed number. -/
  errorSum : BitVec 11
  /-- R27: the last PID output. -/
  lastOutput : Word
  /-- R28: the compare register presented on `cmp_value`. -/
  cmpReg : Word
  /-- R29: the software PWM counter. -/
  pwmCounter : Byte
  /-- R30: the software heater drive level. -/
  swOut : Bool
  /-- R31: the timer-tick divider count. -/
  tickDiv : Word
  /-- R32: a conversion has completed and the background pass has not yet run for it. -/
  bgWake : Bool
  /-- R32: a conversion request is still to be issued. -/
  startReq : Bool
  /-- R33: the channel-skip mask of the outstanding conversion request. -/
  skipLatched : Byte
  /-- R34: the length of the response buffer, 0 or 2. -/
  respLen : Nat
  /-- R34: `resp[0]`. -/
  resp0 : Byte
  /-- R34: `resp[1]`. -/
  resp1 : Byte
deriving DecidableEq, Repr

/-- The step's output record: the output ports of R14 and the per-step signal `trip_now` of R35. It is cleared at the start
of every step and no event of a later step reads it (log 7). -/
structure StepOutputs where
  /-- R14, R95. -/
  heaterPin : Bool
  /-- R14: `cmp_reg`. -/
  cmpValue : Word
  /-- R14: 1 when `heater_mode = PID`. -/
  cmpRoute : Bool
  /-- R14, R98. -/
  adcStart : Bool
  /-- R14, R98: meaningful only when `adcStart` is 1. -/
  adcSkip : Byte
  /-- R14, R51: the bytes of this step's read phase. -/
  rdData : List Byte
  /-- R14, R116. -/
  sysRestart : Bool
  /-- R35, R84: a trip occurred in this step. -/
  tripNow : Bool
deriving DecidableEq, Repr

/-- Every signal at 0, as at the start of a step (R35). -/
def StepOutputs.idle : StepOutputs :=
  { heaterPin := false, cmpValue := 0, cmpRoute := false, adcStart := false, adcSkip := 0, rdData := [],
    sysRestart := false, tripNow := false }

/-- The machine: the block's registers and the outputs of its last step, its build-time parameters, and the input ports'
samples of the coming steps. -/
structure State where
  /-- The parameters of R6, fixed at build time: no step writes them (log 3). -/
  cfg : Params
  /-- The registers (R16 to R34). -/
  regs : Regs
  /-- The outputs at the end of the last step (R14, R35). -/
  out : StepOutputs
  /-- The model's own: the port samples (R13) of the coming steps, one a step, the next step's first (log 1). -/
  inputs : List Inputs
  /-- The model's own: how many free samples have been taken; the free value `Config.freeInputs` is applied to it (log 2). -/
  freeCount : Nat
deriving DecidableEq, Repr

/-- The block has no fault: no command and no event can raise one (60_exceptions.md rule R118; 93_implementation_defined.md
section 1: "No behaviour of the block is `fault` or `stuck`"). The type has no constructor, so that no step can end in one. -/
inductive Fault
deriving DecidableEq, Repr

/-- Why a step gives no meaning. -/
inductive Refusal where
  /-- Raised by an arm of `exec` whose instruction has no meaning yet. Safe: nothing can be proved of the instruction. -/
  | notModelled (mnemonic : String)
  /-- Raised by `step` when a parameter lies outside its range (R7: "A model shall refuse an illegal configuration and give
  it no meaning"). Safe. -/
  | illegalConfiguration
  /-- Raised by `step` when an input lies outside its port's range (R13, U17: "the environment must not present them"). Safe. -/
  | inputOutOfRange
deriving DecidableEq, Repr

/-- Every register at its reset value (R42), for the parameters `c`. -/
def Regs.resetFor (c : Params) : Regs :=
  { raw := Lanes.replicate 0, acc := Lanes.replicate 0, filt := Lanes.replicate 0,
    setPoint := BitVec.ofNat 16 c.defaultSetPoint,
    controlSensor := BitVec.ofNat 3 c.defaultControlSensor,
    heaterMode := .off,
    pwmDuty := BitVec.ofNat 8 c.defaultPwmDuty,
    maxTemp := BitVec.ofNat 16 c.defaultMaxTemp,
    trip := false, errorSum := 0, lastOutput := 0, cmpReg := 0, pwmCounter := 0, swOut := false,
    tickDiv := 0, bgWake := false, startReq := true, skipLatched := 0,
    respLen := 0, resp0 := 0, resp1 := 0 }

/-- The machine right after a power-on reset (R132, R42) of the block with the parameters `c`: no sample of the
coming steps is listed. -/
def State.resetFor (c : Params) : State :=
  { cfg := c, regs := Regs.resetFor c, out := StepOutputs.idle, inputs := [], freeCount := 0 }

/-- The machine right after reset, in the reference configuration REFCFG. DESIGN CHOICE, unsafe: the source gives the OPEN
parameters no value (log 3). -/
def State.reset : State := State.resetFor Params.refcfg

end Sys2Proof.Machine
end

