-- ==== Sys2Proof/Machine/Flags.lean ====
section
/-! DEFINITION. The status word and the mode codes (10_state.md rules R21, R25, R38). The block has no condition codes: no operation
has a flag as a side effect (R38), so these are all its flag computations. -/

namespace Sys2Proof.Machine

/-- `status = {14'b0, trip, 1'b1}`: BoardOn in bit 0 is the constant 1, MaxTempTripped in bit 1 is `trip` (R25, the spec's
decision D19; log 15). -/
def statusWord (r : Regs) : Word := (0 : BitVec 14) ++ (BitVec.ofBool r.trip ++ (1 : BitVec 1))

/-- The two-bit code of a heater mode: `Off = 0`, `PWM = 1`, `PID = 2` (R21, the spec's decision D18; log 15). -/
def modeCode : HeaterMode → BitVec 2
  | .off => 0
  | .pwm => 1
  | .pid => 2

/-- The mode a byte of WR_MODE names; a byte above 2 is not a mode (R111). -/
def modeOfByte (m : Byte) : Option HeaterMode :=
  match m.toNat with
  | 0 => some .off
  | 1 => some .pwm
  | 2 => some .pid
  | _ => none

end Sys2Proof.Machine
end

