-- ==== Sys2Proof/Machine/Ops.lean ====
section
/-! DEFINITION. The named operations that commands and events share: the response primitives of 00_scope.md rule R10, the
response bytes of a read phase, the trip, the reset, and the sampling of the input ports.

The block has no memory, no exception to take and no return from one (20_memory.md R43; 60_exceptions.md R118, R123, R124). The
nearest analogue of an exception entry is the Safety Monitor trip, `tripActions`, which every trip goes through. -/

namespace Sys2Proof.Machine

/-- `Resp(v)`: the response buffer holds the two bytes of `v`, low byte first (R10, R50). -/
def respond (v : Word) (s : State) : State :=
  { s with regs := { s.regs with respLen := 2, resp0 := loByte v, resp1 := hiByte v } }

/-- `Resp0()`: the response buffer is empty (R10, R50). It writes `resp_len` alone (log 11). -/
def respondEmpty (s : State) : State :=
  { s with regs := { s.regs with respLen := 0 } }

/-- Byte j of the response as the transport clocks it out: zero beyond the declared length (R51). -/
def respByte (r : Regs) (j : Nat) : Byte :=
  if j < r.respLen then
    match j with
    | 0 => r.resp0
    | 1 => r.resp1
    | _ => 0
  else 0

/-- The `n` bytes of a read phase (R51). -/
def respBytes (r : Regs) (n : Nat) : List Byte := (List.range n).map (respByte r)

/-- The trip actions (R84): mode Off, software drive de-asserted, the trip flag latched, `trip_now` raised for this step. -/
def tripActions (s : State) : State :=
  { s with
    regs := { s.regs with heaterMode := .off, swOut := false, trip := true }
    out := { s.out with tripNow := true } }

/-- Every register at its reset value (R42), for power-on reset (R132) and soft reset (R116, R133). -/
def resetRegisters (s : State) : State := { s with regs := Regs.resetFor s.cfg }

/-- The input ports as this step samples them (R13): the first listed sample, else a free value (log 1, log 2). -/
def sampleInputs (s : State) : Inputs :=
  match s.inputs with
  | inp :: _ => inp
  | [] => Config.freeInputs s.freeCount

/-- The state in which a step's events begin: the step's sample is taken and every per-step signal is 0 (R35). -/
def beginStep (s : State) : State :=
  match s.inputs with
  | _ :: rest => { s with inputs := rest, out := StepOutputs.idle }
  | [] => { s with freeCount := s.freeCount + 1, out := StepOutputs.idle }

end Sys2Proof.Machine
end

