-- ==== Sys2Proof/Machine/ReadCommands.lean ====
section
/-! DEFINITION. The read commands (44_cmd_read.md rules R100 to R109): each sets the response buffer from one register and writes
nothing else. -/

namespace Sys2Proof.Machine

/-- `Resp(zext_16(raw[i]))` (R101). -/
def readRaw (i : Chan) (s : State) : State := respond (zext16 (s.regs.raw.get i)) s

/-- `Resp(zext_16(filt[i]))` (R102). -/
def readFilt (i : Chan) (s : State) : State := respond (zext16 (s.regs.filt.get i)) s

/-- RD_RAW 0 (R101). -/
def execRdRaw0 (s : State) : Host.Outcome State Fault Refusal := .next (readRaw 0 s)

/-- RD_RAW 1 (R101). -/
def execRdRaw1 (s : State) : Host.Outcome State Fault Refusal := .next (readRaw 1 s)

/-- RD_RAW 2 (R101). -/
def execRdRaw2 (s : State) : Host.Outcome State Fault Refusal := .next (readRaw 2 s)

/-- RD_RAW 3 (R101). -/
def execRdRaw3 (s : State) : Host.Outcome State Fault Refusal := .next (readRaw 3 s)

/-- RD_RAW 4 (R101). -/
def execRdRaw4 (s : State) : Host.Outcome State Fault Refusal := .next (readRaw 4 s)

/-- RD_RAW 5 (R101). -/
def execRdRaw5 (s : State) : Host.Outcome State Fault Refusal := .next (readRaw 5 s)

/-- RD_RAW 6 (R101). -/
def execRdRaw6 (s : State) : Host.Outcome State Fault Refusal := .next (readRaw 6 s)

/-- RD_RAW 7 (R101). -/
def execRdRaw7 (s : State) : Host.Outcome State Fault Refusal := .next (readRaw 7 s)

/-- RD_VER: the parameter FW_VERSION, the same in every state (R103). -/
def execRdVer (s : State) : Host.Outcome State Fault Refusal := .next (respond (BitVec.ofNat 16 s.cfg.fwVersion) s)

/-- RD_STAT: the status word (R104, R25). -/
def execRdStat (s : State) : Host.Outcome State Fault Refusal := .next (respond (statusWord s.regs) s)

/-- RD_MODE: the mode's code, zero-extended (R105). -/
def execRdMode (s : State) : Host.Outcome State Fault Refusal := .next (respond (zext16 (modeCode s.regs.heaterMode)) s)

/-- RD_SP: the set point (R106). -/
def execRdSp (s : State) : Host.Outcome State Fault Refusal := .next (respond s.regs.setPoint s)

/-- RD_SENS: the control sensor, zero-extended (R107). -/
def execRdSens (s : State) : Host.Outcome State Fault Refusal := .next (respond (zext16 s.regs.controlSensor) s)

/-- RD_PWM: the compare register in PID mode, else the software duty, zero-extended (R108). -/
def execRdPwm (s : State) : Host.Outcome State Fault Refusal :=
  .next (respond (if s.regs.heaterMode = .pid then s.regs.cmpReg else zext16 s.regs.pwmDuty) s)

/-- RD_MAX: the over-temperature threshold (R109). -/
def execRdMax (s : State) : Host.Outcome State Fault Refusal := .next (respond s.regs.maxTemp s)

/-- RD_FILT 0 (R102). -/
def execRdFilt0 (s : State) : Host.Outcome State Fault Refusal := .next (readFilt 0 s)

/-- RD_FILT 1 (R102). -/
def execRdFilt1 (s : State) : Host.Outcome State Fault Refusal := .next (readFilt 1 s)

/-- RD_FILT 2 (R102). -/
def execRdFilt2 (s : State) : Host.Outcome State Fault Refusal := .next (readFilt 2 s)

/-- RD_FILT 3 (R102). -/
def execRdFilt3 (s : State) : Host.Outcome State Fault Refusal := .next (readFilt 3 s)

/-- RD_FILT 4 (R102). -/
def execRdFilt4 (s : State) : Host.Outcome State Fault Refusal := .next (readFilt 4 s)

/-- RD_FILT 5 (R102). -/
def execRdFilt5 (s : State) : Host.Outcome State Fault Refusal := .next (readFilt 5 s)

/-- RD_FILT 6 (R102). -/
def execRdFilt6 (s : State) : Host.Outcome State Fault Refusal := .next (readFilt 6 s)

/-- RD_FILT 7 (R102). -/
def execRdFilt7 (s : State) : Host.Outcome State Fault Refusal := .next (readFilt 7 s)

end Sys2Proof.Machine
end

