-- ==== Sys2Proof/Machine/WriteCommands.lean ====
section
/-! DEFINITION. The write commands, soft reset and the unknown opcodes (45_cmd_write.md rules R110 to R117). Each empties the response
buffer whether or not it is accepted. An operand `none` is an under-length request, which changes nothing else (R64, R110). -/

namespace Sys2Proof.Machine

/-- WR_MODE: an accepted mode is written, the trip flag is cleared and the software drive starts de-asserted; a byte above 2 is
ignored (R111; log 15). -/
def execWrMode (m : Option Byte) (s : State) : Host.Outcome State Fault Refusal :=
  match m.bind modeOfByte with
  | some mode =>
    let s0 := respondEmpty s
    .next { s0 with regs := { s0.regs with heaterMode := mode, trip := false, swOut := false } }
  | none => .next (respondEmpty s)

/-- WR_SP: every 16-bit value is accepted (R112). -/
def execWrSp (v : Option Word) (s : State) : Host.Outcome State Fault Refusal :=
  match v with
  | some v =>
    let s0 := respondEmpty s
    .next { s0 with regs := { s0.regs with setPoint := v } }
  | none => .next (respondEmpty s)

/-- WR_SENS: an index below 8 is written, another is ignored (R113). -/
def execWrSens (n : Option Byte) (s : State) : Host.Outcome State Fault Refusal :=
  match n with
  | some n =>
    let s0 := respondEmpty s
    if n.toNat < 8 then .next { s0 with regs := { s0.regs with controlSensor := n.setWidth 3 } } else .next s0
  | none => .next (respondEmpty s)

/-- WR_PWM: every byte is accepted; the counter is not reset (R114). -/
def execWrPwm (d : Option Byte) (s : State) : Host.Outcome State Fault Refusal :=
  match d with
  | some d =>
    let s0 := respondEmpty s
    .next { s0 with regs := { s0.regs with pwmDuty := d } }
  | none => .next (respondEmpty s)

/-- WR_MAX: every 16-bit value is accepted, 0 disables the interlock; a latched trip stays (R115, R86). -/
def execWrMax (v : Option Word) (s : State) : Host.Outcome State Fault Refusal :=
  match v with
  | some v =>
    let s0 := respondEmpty s
    .next { s0 with regs := { s0.regs with maxTemp := v } }
  | none => .next (respondEmpty s)

/-- SRST: every register at its reset value and `sys_restart` raised for this step (R116, R133). The step's background slot
does not run: `backgroundSlot` reads `sys_restart`. -/
def execSrst (s : State) : Host.Outcome State Fault Refusal :=
  let s0 := resetRegisters (respondEmpty s)
  .next { s0 with out := { s0.out with sysRestart := true } }

/-- An unknown opcode: `Resp0()` and nothing else, whatever the opcode (R117). -/
def execUnknown (_op : Byte) (s : State) : Host.Outcome State Fault Refusal := .next (respondEmpty s)

end Sys2Proof.Machine
end

