-- ==== Sys2Proof/Machine/Dispatch.lean ====
section
/-! DEFINITION. Every instruction's meaning, one arm per constructor of `Instr` (30_encoding.md rule R66). -/

namespace Sys2Proof.Machine

def exec (i : Instr) (s : State) : Host.Outcome State Fault Refusal :=
  match i with
  | .rdRaw0 => Sys2Proof.Machine.execRdRaw0 s
  | .rdRaw1 => Sys2Proof.Machine.execRdRaw1 s
  | .rdRaw2 => Sys2Proof.Machine.execRdRaw2 s
  | .rdRaw3 => Sys2Proof.Machine.execRdRaw3 s
  | .rdRaw4 => Sys2Proof.Machine.execRdRaw4 s
  | .rdRaw5 => Sys2Proof.Machine.execRdRaw5 s
  | .rdRaw6 => Sys2Proof.Machine.execRdRaw6 s
  | .rdRaw7 => Sys2Proof.Machine.execRdRaw7 s
  | .rdVer => Sys2Proof.Machine.execRdVer s
  | .rdStat => Sys2Proof.Machine.execRdStat s
  | .rdMode => Sys2Proof.Machine.execRdMode s
  | .rdSp => Sys2Proof.Machine.execRdSp s
  | .rdSens => Sys2Proof.Machine.execRdSens s
  | .rdPwm => Sys2Proof.Machine.execRdPwm s
  | .rdMax => Sys2Proof.Machine.execRdMax s
  | .rdFilt0 => Sys2Proof.Machine.execRdFilt0 s
  | .rdFilt1 => Sys2Proof.Machine.execRdFilt1 s
  | .rdFilt2 => Sys2Proof.Machine.execRdFilt2 s
  | .rdFilt3 => Sys2Proof.Machine.execRdFilt3 s
  | .rdFilt4 => Sys2Proof.Machine.execRdFilt4 s
  | .rdFilt5 => Sys2Proof.Machine.execRdFilt5 s
  | .rdFilt6 => Sys2Proof.Machine.execRdFilt6 s
  | .rdFilt7 => Sys2Proof.Machine.execRdFilt7 s
  | .wrMode m => Sys2Proof.Machine.execWrMode m s
  | .wrSp v => Sys2Proof.Machine.execWrSp v s
  | .wrSens n => Sys2Proof.Machine.execWrSens n s
  | .wrPwm d => Sys2Proof.Machine.execWrPwm d s
  | .wrMax v => Sys2Proof.Machine.execWrMax v s
  | .srst => Sys2Proof.Machine.execSrst s
  | .unknown op => Sys2Proof.Machine.execUnknown op s

end Sys2Proof.Machine
end

