-- ==== Sys2Proof/Machine/Heater.lean ====
section
/-! DEFINITION. The background slot, the software PWM and the pin arbiter (43_heater_actuator.md rules R94 to R99). -/

namespace Sys2Proof.Machine

/-- The background pass (R97): when woken, the software PWM counts and compares in PWM mode, the drive is de-asserted in Off mode
and nothing is driven in PID mode; the next conversion is then to be requested. -/
def backgroundPass (s : State) : State :=
  if s.regs.bgWake then
    match s.regs.heaterMode with
    | .pwm =>
      let n := s.regs.pwmCounter + 1
      { s with regs := { s.regs with
          bgWake := false, pwmCounter := n, swOut := decide (n.toNat < s.regs.pwmDuty.toNat), startReq := true } }
    | .off => { s with regs := { s.regs with bgWake := false, swOut := false, startReq := true } }
    | .pid => { s with regs := { s.regs with bgWake := false, startReq := true } }
  else s

/-- The channel-skip mask of a conversion request: the voltage and current channels while the heater is de-asserted in PWM
mode, else none (R98; log 16). -/
def skipMask (c : Params) (r : Regs) : Byte :=
  if r.heaterMode = .pwm ∧ r.swOut = false then c.viMask else 0

/-- The conversion request, `AdcStart(skip)`, when one is still to be issued (R98). -/
def conversionRequest (s : State) : State :=
  if s.regs.startReq then
    { s with
      regs := { s.regs with skipLatched := skipMask s.cfg s.regs, startReq := false }
      out := { s.out with adcStart := true, adcSkip := skipMask s.cfg s.regs } }
  else s

/-- The background slot: the pass, then the conversion request. It does not run in a step that executed a soft reset, which
`sys_restart` marks (R97, R98, R116). -/
def backgroundSlot (s : State) : State :=
  if s.out.sysRestart then s else conversionRequest (backgroundPass s)

/-- The pin arbiter (R95): a trip of this step holds the pin at 0, else the compare unit drives it in PID mode and the software
level drives it in the other modes. -/
def heaterPinOf (wave : Bool) (s : State) : Bool :=
  if s.out.tripNow then false
  else if s.regs.heaterMode = .pid then wave
  else s.regs.swOut

/-- The outputs at the end of a step (R14), from the state after its last event and the level of `cmp_wave`. -/
def presentOutputs (wave : Bool) (s : State) : State :=
  { s with out := { s.out with
      heaterPin := heaterPinOf wave s
      cmpValue := s.regs.cmpReg
      cmpRoute := decide (s.regs.heaterMode = .pid) } }

end Sys2Proof.Machine
end

