-- ==== Sys2Proof/Machine/Pid.lean ====
section
/-! DEFINITION. The fixed-point PI controller (42_pid.md rules R87 to R93), on exact integers (R9; log 13). -/

namespace Sys2Proof.Machine

/-- The reading the controller uses: `raw[control_sensor]` (R88). -/
def controlReading (r : Regs) : Nat := (r.raw.get r.controlSensor.toFin).toNat

/-- The reading lies in [MIN_ADC, MAX_ADC], bounds inclusive (R88). -/
def readingInRange (c : Params) (reading : Nat) : Bool := c.minAdc ≤ reading && reading ≤ c.maxAdc

/-- `e = set_point - reading`, signed (R89). -/
def pidError (r : Regs) (reading : Nat) : Int := (r.setPoint.toNat : Int) - (reading : Int)

/-- The integrator after an update with error `e`: scaled accumulation, then the anti-windup clamp (R90). -/
def pidIntegral (c : Params) (errorSum e : Int) : Int := clamp (errorSum + asr e c.iShift) minOut maxOut

/-- The output for error `e` and the integrator as just written (R91). -/
def pidOutput (c : Params) (errorSum e : Int) : Int := clamp ((c.pGain : Int) * e + errorSum) minOut maxOut

/-- One PID update (R88 to R91): with the reading out of range the output is 0 and the integrator is kept. -/
def pidUpdate (s : State) : State :=
  let reading := controlReading s.regs
  if readingInRange s.cfg reading then
    let e := pidError s.regs reading
    let sum := pidIntegral s.cfg s.regs.errorSum.toInt e
    let o := pidOutput s.cfg sum e
    { s with regs := { s.regs with
        errorSum := BitVec.ofInt 11 sum, lastOutput := BitVec.ofInt 16 o, cmpReg := BitVec.ofInt 16 o } }
  else
    { s with regs := { s.regs with lastOutput := 0, cmpReg := 0 } }

end Sys2Proof.Machine
end

