-- ==== Sys2Proof/Machine/Monitor.lean ====
section
/-! DEFINITION. The timer tick, the control tick and the Safety Monitor (41_safety_monitor.md rules R81 to R86). -/

namespace Sys2Proof.Machine

/-- The over-temperature comparator (R83): the interlock is enabled and a monitored reading, zero-extended to 16 bits, is
strictly above the threshold. -/
def overTemp (c : Params) (r : Regs) : Bool :=
  r.maxTemp != 0 && allChans.any fun i => maskBit c.tempMask i && decide (r.maxTemp.toNat < (zext16 (r.raw.get i)).toNat)

/-- The control tick (R82): a trip, else in PID mode a PID update, else nothing. -/
def controlTick (s : State) : State :=
  if overTemp s.cfg s.regs then tripActions s
  else if s.regs.heaterMode = .pid then pidUpdate s
  else s

/-- One timer tick: the divider counts, and the tick that brings it to TICK_DIV_M is a control tick (R81; log 21). -/
def timerTick (s : State) : State :=
  let t := s.regs.tickDiv.toNat + 1
  if t = s.cfg.tickDivM then controlTick { s with regs := { s.regs with tickDiv := 0 } }
  else { s with regs := { s.regs with tickDiv := BitVec.ofNat 16 t } }

/-- The timer event of a step, when `tmr_tick = 1` (R81, R121). -/
def timerEvent (inp : Inputs) (s : State) : State := if inp.tick then timerTick s else s

end Sys2Proof.Machine
end

