-- ==== Sys2Proof/Machine/Sensor.lean ====
section
/-! DEFINITION. The conversion event and the EMA filter bank (40_sensor_conditioning.md rules R72 to R80). -/

namespace Sys2Proof.Machine

/-- The filter input x of lane i for the reading r: 0 where the low-pass clamp substitutes it, else r (R74; log 16). -/
def filterInput (c : Params) (i : Chan) (r : Code) : Nat :=
  if c.lpe.get i = true ∧ c.clampThr.get i ≤ r.toNat then 0 else r.toNat

/-- `y = (a + half) >> K` with `half = 2^(K-1)` (R75). -/
def emaOutput (k a : Nat) : Nat := (a + 2 ^ (k - 1)) / 2 ^ k

/-- One EMA step of a lane with shift `k`, accumulator `acc` and input `x`: the new accumulator and the output (R75), as
exact integers (R9). -/
def emaStep (k acc x : Nat) : Nat × Nat :=
  let a := acc + x
  let y := emaOutput k a
  (a - y, y)

/-- Lane i is updated by a batch: the batch carries it and the outstanding request did not skip it (R72; log 16). -/
def laneSelected (b : Batch) (r : Regs) (i : Chan) : Bool := maskBit b.chanValid i && !maskBit r.skipLatched i

/-- The width of channel i's accumulator, `12 + EMA_K[i]` bits (R17). -/
def accWidth (c : Params) (i : Chan) : Nat := 12 + c.emaK.get i

/-- What channel i's accumulator holds: its `accWidth` bits, unsigned (R17; log 8). -/
def accValue (c : Params) (r : Regs) (i : Chan) : Nat := (r.acc.get i).toNat % 2 ^ accWidth c i

/-- `n` written into channel i's accumulator of `accWidth` bits (R17; log 8). -/
def accStore (c : Params) (i : Chan) (n : Nat) : Acc := BitVec.ofNat 28 (n % 2 ^ accWidth c i)

/-- The lane's EMA step for the batch's reading (R74, R75). -/
def laneStep (c : Params) (b : Batch) (r : Regs) (i : Chan) : Nat × Nat :=
  emaStep (c.emaK.get i) (accValue c r i) (filterInput c i (b.data.get i))

/-- The conversion of one batch: every selected lane captures its reading (R73) and makes one EMA step, the others keep their
three registers (R72, R78); then the background sequencer is woken (R80). -/
def convertBatch (b : Batch) (s : State) : State :=
  { s with regs := { s.regs with
      raw := Lanes.ofFn fun i => if laneSelected b s.regs i then b.data.get i else s.regs.raw.get i
      acc := Lanes.ofFn fun i =>
        if laneSelected b s.regs i then accStore s.cfg i (laneStep s.cfg b s.regs i).1 else s.regs.acc.get i
      filt := Lanes.ofFn fun i =>
        if laneSelected b s.regs i then BitVec.ofNat 12 (laneStep s.cfg b s.regs i).2 else s.regs.filt.get i
      bgWake := true } }

/-- The conversion event of a step, when `conv_valid = 1` (R72, R121). -/
def conversionEvent (inp : Inputs) (s : State) : State :=
  match inp.conv with
  | some b => convertBatch b s
  | none => s

end Sys2Proof.Machine
end

