-- ==== Sys2Proof/Machine/Cycle.lean ====
section
/-! DEFINITION. The events of one step in their fixed order (60_exceptions.md rule R121; log 12). -/

namespace Sys2Proof.Machine

/-- The step of a power-on reset (R132): every register at its reset value, every output 0, and zero bytes for a read
phase. No other event of the step is performed. -/
def powerOnReset (inp : Inputs) (s : State) : State :=
  { resetRegisters s with
    out := { StepOutputs.idle with rdData := List.replicate (inp.rdCount.getD 0) 0 } }

/-- The read phase of a step (R51): it changes no register. -/
def readPhase (inp : Inputs) (s : State) : State :=
  match inp.rdCount with
  | some n => { s with out := { s.out with rdData := respBytes s.regs n } }
  | none => s

/-- The events of a step up to its read phase: conversion, timer tick, read phase (R121, items 2 to 4). -/
def beforeRequest (inp : Inputs) (s : State) : State :=
  readPhase inp (timerEvent inp (conversionEvent inp s))

/-- The request of a step, if the transport delivers one (R121, item 4). The bytes decode to an instruction, which `exec`
runs; a request without an opcode byte lies outside the port's range. -/
def requestEvent (inp : Inputs) (s : State) : Host.Outcome State Fault Refusal :=
  match inp.req with
  | none => .next s
  | some bytes =>
    match decode bytes with
    | .ok i => exec i s
    | .error .noOpcode => .refused .inputOutOfRange

/-- What follows the request in a step: the background slot, then the outputs (R121, item 5; R14). -/
def afterRequest (inp : Inputs) (s : State) : State := presentOutputs inp.cmpWave (backgroundSlot s)

/-- The events of one step, from the state in which they begin (R121). -/
def performEvents (inp : Inputs) (s : State) : Host.Outcome State Fault Refusal :=
  if inp.rst then .next (powerOnReset inp s)
  else
    match requestEvent inp (beforeRequest inp s) with
    | .next t => .next (afterRequest inp t)
    | .fault f => .fault f
    | .refused r => .refused r

/-- The sample that presents one request and no other strobe, with `cmp_wave` at 0. -/
def requestSample (bytes : List Byte) : Inputs := { Inputs.quiet false with req := some bytes }

end Sys2Proof.Machine
end

