-- ==== Sys2Proof/WellFormed.lean ====
section
/-! DEFINITION. What is well formed: an instruction, a configuration (00_scope.md rule R7) and the inputs of one
step (10_state.md rule R13). -/

namespace Sys2Proof

/-- An instruction is well formed when the opcode an `unknown` carries is one of rule R68's unknown opcodes. Every
operand value of the other constructors is one the encoding admits (R63). -/
def Instr.wellFormed : Instr → Bool
  | .unknown op => unknownOpcode op
  | .rdRaw0 | .rdRaw1 | .rdRaw2 | .rdRaw3 | .rdRaw4 | .rdRaw5 | .rdRaw6 | .rdRaw7 => true
  | .rdVer | .rdStat | .rdMode | .rdSp | .rdSens | .rdPwm | .rdMax => true
  | .rdFilt0 | .rdFilt1 | .rdFilt2 | .rdFilt3 | .rdFilt4 | .rdFilt5 | .rdFilt6 | .rdFilt7 => true
  | .wrMode _ | .wrSp _ | .wrSens _ | .wrPwm _ | .wrMax _ | .srst => true

/-- `EMA_K[i]` is an integer 1..16 for every channel. `K = 0` is illegal (R7: `2^(K-1)` is no integer). -/
def Params.emaKOk (c : Params) : Bool := allChans.all fun i => 1 ≤ c.emaK.get i && c.emaK.get i ≤ 16

/-- `CLAMP_THR[i]` is 0..4095 for every channel. -/
def Params.clampThrOk (c : Params) : Bool := allChans.all fun i => c.clampThr.get i ≤ 4095

/-- The range checks of R7, one for each parameter of R6 that has a range. `LPE`, `TEMP_MASK` and `VI_MASK` have every value of
their type. -/
def Params.checks (c : Params) : List Bool :=
  [ c.emaKOk, c.clampThrOk, decide (c.pGain ≤ 255), decide (c.iShift ≤ 17),
    decide (c.minAdc ≤ c.maxAdc), decide (c.maxAdc ≤ 4095),
    decide (1 ≤ c.tickDivM), decide (c.tickDivM ≤ 65535),
    decide (c.defaultSetPoint ≤ 65535), decide (c.defaultControlSensor ≤ 7), decide (c.defaultPwmDuty ≤ 255),
    decide (1 ≤ c.defaultMaxTemp), decide (c.defaultMaxTemp ≤ 65535),
    decide (c.fwVersion ≤ 65535), decide (2 ≤ c.maxPayload) ]

/-- A configuration is legal when every parameter lies in its range (R7). -/
def Params.legal (c : Params) : Bool := c.checks.all id

/-- The inputs of a step lie in the ranges of their ports (R13): `rd_count >= 1` and `req_len` in 1..1+MAX_PAYLOAD. The other
ports have every value of their type. -/
def Inputs.inRange (c : Params) (inp : Inputs) : Bool :=
  (match inp.rdCount with
    | none => true
    | some n => 1 ≤ n)
  && (match inp.req with
    | none => true
    | some bytes => 1 ≤ bytes.length && bytes.length ≤ 1 + c.maxPayload)

end Sys2Proof
end

