-- ==== Sys2Proof/Machine/Step.lean ====
section
/-! DEFINITION. One step of the block: one cycle of its clock (00_scope.md rule R5). -/

namespace Sys2Proof.Machine

/-- One step: the ports are sampled and the events are performed (R5, R121). An illegal configuration is refused (R7), and so is
a sample outside its ports' ranges (R13, U17). -/
def step (s : State) : Host.Outcome State Fault Refusal :=
  if s.cfg.legal then
    if (sampleInputs s).inRange s.cfg then performEvents (sampleInputs s) (beginStep s)
    else .refused .inputOutOfRange
  else .refused .illegalConfiguration

/-- The state whose next step is presented the request of an instruction's table word (`requestBytes`), no other input
strobe, and `cmp_wave` at 0: the sample is put before those listed. The block fetches no instructions, so this stands for the
transport's delivery of one request (R56; log 6). -/
def State.withFetchWord (s : State) (nbits w : Nat) : State :=
  { s with inputs := requestSample (requestBytes nbits w) :: s.inputs }

end Sys2Proof.Machine
end

