-- ==== Sys2Proof/Safety.lean ====
section
/-! DEFINITION. What counts as a good state and a safe step, in the terms the statements use. -/

namespace Sys2Proof.Machine

/-- The invariants of rule R41, for the parameters `c`. Three of R41's clauses hold of every value of the fields' types:
`control_sensor < 8`, `heater_mode` is one of the three modes, `filt[i] <= 4095`. -/
structure Regs.Good (c : Params) (r : Regs) : Prop where
  /-- `0 <= error_sum <= 1000`. -/
  errorSum_bounds : 0 ≤ r.errorSum.toInt ∧ r.errorSum.toInt ≤ 1000
  /-- `0 <= cmp_reg <= 1000`. -/
  cmpReg_le : r.cmpReg.toNat ≤ 1000
  /-- `last_output = cmp_reg`. -/
  lastOutput_eq : r.lastOutput = r.cmpReg
  /-- `heater_mode != PWM` implies `sw_out = 0`. -/
  swOut_off : r.heaterMode ≠ .pwm → r.swOut = false
  /-- `0 <= acc[i] <= 4095 * (2^EMA_K[i] - 1)`. -/
  acc_le : ∀ i, (r.acc.get i).toNat ≤ 4095 * (2 ^ c.emaK.get i - 1)
  /-- `tick_div < TICK_DIV_M`. -/
  tickDiv_lt : r.tickDiv.toNat < c.tickDivM
  /-- `resp_len in {0, 2}`. -/
  respLen_mem : r.respLen = 0 ∨ r.respLen = 2

/-- A good state: the configuration is legal (R7) and the registers satisfy R41. -/
structure State.Good (s : State) : Prop where
  legal : s.cfg.legal = true
  regs : s.regs.Good s.cfg

/-- The fail-safe promise of the outputs: an asserted heater pin means that no trip occurred in the step and that the heater is
not Off (R84, R95). -/
def State.PinSafe (s : State) : Prop :=
  s.out.heaterPin = true → s.out.tripNow = false ∧ s.regs.heaterMode ≠ .off

/-- The request carries every operand byte the command's format needs (R62): it is not under-length (R64). -/
def fullLength : Instr → Bool
  | .wrMode m => m.isSome
  | .wrSp v => v.isSome
  | .wrSens n => n.isSome
  | .wrPwm d => d.isSome
  | .wrMax v => v.isSome
  | .rdRaw0 | .rdRaw1 | .rdRaw2 | .rdRaw3 | .rdRaw4 | .rdRaw5 | .rdRaw6 | .rdRaw7 => true
  | .rdVer | .rdStat | .rdMode | .rdSp | .rdSens | .rdPwm | .rdMax => true
  | .rdFilt0 | .rdFilt1 | .rdFilt2 | .rdFilt3 | .rdFilt4 | .rdFilt5 | .rdFilt6 | .rdFilt7 => true
  | .srst | .unknown _ => true

/-- The commands that answer with two bytes (R100). -/
def isRead : Instr → Bool
  | .wrMode _ | .wrSp _ | .wrSens _ | .wrPwm _ | .wrMax _ | .srst | .unknown _ => false
  | .rdRaw0 | .rdRaw1 | .rdRaw2 | .rdRaw3 | .rdRaw4 | .rdRaw5 | .rdRaw6 | .rdRaw7 => true
  | .rdVer | .rdStat | .rdMode | .rdSp | .rdSens | .rdPwm | .rdMax => true
  | .rdFilt0 | .rdFilt1 | .rdFilt2 | .rdFilt3 | .rdFilt4 | .rdFilt5 | .rdFilt6 | .rdFilt7 => true

/-- The step's request, if it has one, is the command `i`. -/
def requests (inp : Inputs) (i : Instr) : Prop := ∃ bytes, inp.req = some bytes ∧ decode bytes = .ok i

/-- The step's timer tick is a control tick (R81): the tick is presented and the divider stands one below TICK_DIV_M. -/
def controlTickDue (inp : Inputs) (s : State) : Prop :=
  inp.tick = true ∧ s.regs.tickDiv.toNat + 1 = s.cfg.tickDivM

/-- The step's control tick, if it has one, trips: the comparator reads the registers that the step's conversion left (R83, R121). -/
def tripDue (inp : Inputs) (s : State) : Prop :=
  controlTickDue inp s ∧ overTemp s.cfg (conversionEvent inp s).regs = true

end Sys2Proof.Machine
end

