-- ==== Sys2Proof/Certificates/Slice0/Obligations.lean ====
section
/-! DEFINITION. The statements for the provers. A docstring names the rule a statement formalises; where a statement rests on a
decision the spec marks as its own, or on an inference it marks as derived, the docstring names it and the statement's basis is
'derived'. -/

open Sys2Proof Sys2Proof.Machine

namespace Sys2Proof.Claims

/-- `s` with an empty response, and nothing else changed. -/
def emptied (s : State) : State := { s with regs := { s.regs with respLen := 0 } }

/-- The command `i` in state `s` completes, answers the two bytes of `v`, low byte first, and changes nothing else. -/
def Answers (i : Instr) (s : State) (v : Nat) : Prop :=
  exec i s = .next { s with regs := { s.regs with
    respLen := 2, resp0 := BitVec.ofNat 8 (v % 256), resp1 := BitVec.ofNat 8 (v / 256) } }

/-- The request is an accepted WR_MODE that writes `mode`. -/
def WritesMode (inp : Inputs) (mode : HeaterMode) : Prop :=
  ∃ m : Byte, requests inp (.wrMode (some m)) ∧ m.toNat = (modeCode mode).toNat

/-- The step resets nothing: no power-on reset and no soft reset. -/
def NoReset (inp : Inputs) : Prop := inp.rst = false ∧ ¬ requests inp .srst

/-- The step makes a background pass: a wake is pending or a conversion arrives (R80, R97). -/
def PassDue (inp : Inputs) (s : State) : Prop := s.regs.bgWake = true ∨ inp.conv.isSome = true

/-- The step makes a PID update (R82, R87): a control tick in PID mode that does not trip, by the readings after the step's conversion
and the mode and threshold before its request. -/
def PidUpdateDue (inp : Inputs) (s : State) : Prop :=
  controlTickDue inp s ∧ s.regs.heaterMode = .pid ∧ overTemp s.cfg (conversionEvent inp s).regs = false

/-- The drive is forced off in the step: a trip, or an accepted WR_MODE (R84, R111). -/
def DriveForcedOff (inp : Inputs) (s : State) : Prop := tripDue inp s ∨ ∃ mode, WritesMode inp mode

/-- The reading of channel `i` that the step's control tick uses, for the comparator and the PID controller: the batch's where
the lane is selected, else the register's (R72, R73, R83, R88). -/
def readingUsed (inp : Inputs) (s : State) (i : Chan) : Code :=
  match inp.conv with
  | some b => if b.chanValid.getLsbD i = true ∧ s.regs.skipLatched.getLsbD i = false then b.data.get i
    else s.regs.raw.get i
  | none => s.regs.raw.get i

/-- The sample asserts no strobe but, where it has one, the conversion batch. -/
def ConversionOnly (inp : Inputs) : Prop :=
  inp.rst = false ∧ inp.tick = false ∧ inp.rdCount = none ∧ inp.req = none

end Sys2Proof.Claims

open Sys2Proof.Claims

/-! ## Encoding -/

/-- R62, R63, R66: decoding the request that carries a well-formed command gives the command. An under-length form is carried by
its opcode byte alone (log 18). -/
def Obligations.DecodeOfEncodeIsTheCommand : Prop :=
  ∀ i : Instr, i.wellFormed = true → decode (encode i) = .ok i

/-- R68: the unknown opcodes are exactly those listed, 227 of them, and each behaves alike; no opcode traps: every one of the 256,
with any payload, decodes to a command that completes in every state. -/
def Obligations.UnknownOpcodesAreThoseListed : Prop :=
  (∀ (op : Byte) (payload : List Byte),
    decode (op :: payload) = .ok (.unknown op) ↔
      (op.toNat = 0x00 ∨ (0x09 ≤ op.toNat ∧ op.toNat ≤ 0x0F) ∨ (0x12 ≤ op.toNat ∧ op.toNat ≤ 0x1F) ∨
       (0x25 ≤ op.toNat ∧ op.toNat ≤ 0x30) ∨ (0x39 ≤ op.toNat ∧ op.toNat ≤ 0x3F) ∨
       (0x45 ≤ op.toNat ∧ op.toNat ≤ 0x4F) ∨ (0x51 ≤ op.toNat ∧ op.toNat ≤ 0xFF))) ∧
  ((List.range 256).countP fun n => decide (decode [BitVec.ofNat 8 n] = .ok (.unknown (BitVec.ofNat 8 n)))) = 227 ∧
  (∀ (op : Byte) (s : State), exec (.unknown op) s = .next (emptied s)) ∧
  (∀ (op : Byte) (payload : List Byte), ∃ i, decode (op :: payload) = .ok i ∧ ∀ s, ∃ t, exec i s = .next t)

/-- R65 (the spec's decision D20): payload bytes beyond those the format uses are ignored. -/
def Obligations.SurplusPayloadIsIgnored : Prop :=
  ∀ (i : Instr) (extra : List Byte), i.wellFormed = true → fullLength i = true → decode (encode i ++ extra) = .ok i

/-- R64: a request whose payload is shorter than its format needs empties the response and changes nothing else. -/
def Obligations.UnderLengthRequestsChangeNothing : Prop :=
  (∀ op : Byte, op = 0x40 ∨ op = 0x42 ∨ op = 0x43 →
    ∃ i, decode [op] = .ok i ∧ ∀ s, exec i s = .next (emptied s)) ∧
  (∀ (op : Byte) (payload : List Byte), op = 0x41 ∨ op = 0x44 → payload.length < 2 →
    ∃ i, decode (op :: payload) = .ok i ∧ ∀ s, exec i s = .next (emptied s))

/-- R63: the operand of an FMT1 command is its first payload byte as it is, that of an FMT2 command is `p0 + 256 * p1`. -/
def Obligations.OperandsAreAssembledUnsigned : Prop :=
  ∀ (p0 p1 : Byte) (rest : List Byte),
    decode (0x40 :: p0 :: rest) = .ok (.wrMode (some p0)) ∧
    decode (0x42 :: p0 :: rest) = .ok (.wrSens (some p0)) ∧
    decode (0x43 :: p0 :: rest) = .ok (.wrPwm (some p0)) ∧
    ∃ v : Word, v.toNat = p0.toNat + 256 * p1.toNat ∧
      decode (0x41 :: p0 :: p1 :: rest) = .ok (.wrSp (some v)) ∧
      decode (0x44 :: p0 :: p1 :: rest) = .ok (.wrMax (some v))

/-- R66, 95_test_vectors.md section 2.1: a few requests written out from the opcode map. That the map's values are normative, and
that RD_FILT has 0x31 to 0x38, is the spec's decision D3 (90_conflicts.md C1); the channel of a raw read's opcode (R67) is its
decision D4 (log 14). -/
def Obligations.WrittenRequestsDecode : Prop :=
  decode [0x01] = .ok .rdRaw0 ∧ decode [0x08] = .ok .rdRaw7 ∧ decode [0x31] = .ok .rdFilt0 ∧
  decode [0x38] = .ok .rdFilt7 ∧ decode [0x10] = .ok .rdVer ∧ decode [0x24] = .ok .rdMax ∧
  decode [0x40, 0x02] = .ok (.wrMode (some 2)) ∧ decode [0x41, 0x00, 0x08] = .ok (.wrSp (some 2048)) ∧
  decode [0x44, 0xB8, 0x0B] = .ok (.wrMax (some 3000)) ∧ decode [0x50] = .ok .srst ∧
  decode [0x99, 0x12, 0x34] = .ok (.unknown 0x99)

/-! ## The step -/

/-- R121, R5: a step whose request decodes to `i` runs `exec i` after the conversion, the timer tick and the read phase of the
step, and the background slot and the outputs follow it. This place of the request among the events is the spec's decision D2,
and that the read phase is served before it is D41 (log 12, log 22). -/
def Obligations.StepRunsTheDecodedCommand : Prop :=
  ∀ (s : State) (bytes : List Byte) (i : Instr),
    s.cfg.legal = true → (sampleInputs s).inRange s.cfg = true → (sampleInputs s).rst = false →
    (sampleInputs s).req = some bytes → decode bytes = .ok i →
    step s =
      match exec i (beforeRequest (sampleInputs s) (beginStep s)) with
      | .next t => .next (afterRequest (sampleInputs s) t)
      | .fault f => .fault f
      | .refused r => .refused r

/-- R118, R7, R13: no step faults, and a step answers a next state exactly when the configuration is legal and the inputs lie in
their ports' ranges. That the inputs' ranges are preconditions is 93_implementation_defined.md U17. -/
def Obligations.StepCompletesExactlyWithinItsContract : Prop :=
  ∀ s : State, ((∃ t, step s = .next t) ↔ s.cfg.legal = true ∧ (sampleInputs s).inRange s.cfg = true) ∧
    ∀ f, step s ≠ .fault f

/-- R7: a configuration with a parameter outside its range in R6 is refused, whatever the inputs. The ranges are the spec's
decisions (D5, D13, D15, D26, D28, D29, D46). -/
def Obligations.IllegalConfigurationIsRefused : Prop :=
  ∀ s : State,
    ((∃ i, s.cfg.emaK.get i = 0 ∨ 16 < s.cfg.emaK.get i) ∨ (∃ i, 4095 < s.cfg.clampThr.get i) ∨
     255 < s.cfg.pGain ∨ 17 < s.cfg.iShift ∨ s.cfg.maxAdc < s.cfg.minAdc ∨ 4095 < s.cfg.maxAdc ∨
     s.cfg.tickDivM = 0 ∨ 65535 < s.cfg.tickDivM ∨ 65535 < s.cfg.defaultSetPoint ∨
     7 < s.cfg.defaultControlSensor ∨ 255 < s.cfg.defaultPwmDuty ∨ s.cfg.defaultMaxTemp = 0 ∨
     65535 < s.cfg.defaultMaxTemp ∨ 65535 < s.cfg.fwVersion ∨ s.cfg.maxPayload < 2) →
    step s = .refused .illegalConfiguration

/-- R13, 93_implementation_defined.md U17: a read phase of no bytes, and a request with no opcode byte or with more than
1 + MAX_PAYLOAD bytes, are refused. -/
def Obligations.InputOutsideItsPortIsRefused : Prop :=
  ∀ s : State, s.cfg.legal = true →
    ((sampleInputs s).rdCount = some 0 ∨ (sampleInputs s).req = some [] ∨
      ∃ bytes, (sampleInputs s).req = some bytes ∧ 1 + s.cfg.maxPayload < bytes.length) →
    step s = .refused .inputOutOfRange

/-- R6: the parameters do not change while the block runs. R40, R19, R20, R22, R23: in a step without a reset, each configuration
register keeps its value unless the step's request is an accepted write of it, and then holds the value written, whatever
else the step does. The samples are consumed one a step (the model's choice, log 1). -/
def Obligations.StepKeepsTheParameters : Prop :=
  ∀ s t : State, step s = .next t → t.cfg = s.cfg ∧ t.inputs = s.inputs.tail ∧
    (NoReset (sampleInputs s) →
      (∀ v, requests (sampleInputs s) (.wrSp (some v)) → t.regs.setPoint = v) ∧
      ((∀ v, ¬ requests (sampleInputs s) (.wrSp (some v))) → t.regs.setPoint = s.regs.setPoint) ∧
      (∀ n : Byte, n.toNat < 8 → requests (sampleInputs s) (.wrSens (some n)) →
        t.regs.controlSensor.toNat = n.toNat) ∧
      ((∀ n : Byte, n.toNat < 8 → ¬ requests (sampleInputs s) (.wrSens (some n))) →
        t.regs.controlSensor = s.regs.controlSensor) ∧
      (∀ d, requests (sampleInputs s) (.wrPwm (some d)) → t.regs.pwmDuty = d) ∧
      ((∀ d, ¬ requests (sampleInputs s) (.wrPwm (some d))) → t.regs.pwmDuty = s.regs.pwmDuty) ∧
      (∀ v, requests (sampleInputs s) (.wrMax (some v)) → t.regs.maxTemp = v) ∧
      ((∀ v, ¬ requests (sampleInputs s) (.wrMax (some v))) → t.regs.maxTemp = s.regs.maxTemp))

/-! ## Read commands -/

/-- R101: RD_RAW i answers `raw[i]`, zero-extended, with any payload, and changes nothing but the response; after reset the
answer is 0. -/
def Obligations.RawReadsAnswerTheReading : Prop :=
  (∀ (s : State) (payload : List Byte),
    (decode (0x01 :: payload) = .ok .rdRaw0 ∧ Answers .rdRaw0 s (s.regs.raw.get 0).toNat) ∧
    (decode (0x02 :: payload) = .ok .rdRaw1 ∧ Answers .rdRaw1 s (s.regs.raw.get 1).toNat) ∧
    (decode (0x03 :: payload) = .ok .rdRaw2 ∧ Answers .rdRaw2 s (s.regs.raw.get 2).toNat) ∧
    (decode (0x04 :: payload) = .ok .rdRaw3 ∧ Answers .rdRaw3 s (s.regs.raw.get 3).toNat) ∧
    (decode (0x05 :: payload) = .ok .rdRaw4 ∧ Answers .rdRaw4 s (s.regs.raw.get 4).toNat) ∧
    (decode (0x06 :: payload) = .ok .rdRaw5 ∧ Answers .rdRaw5 s (s.regs.raw.get 5).toNat) ∧
    (decode (0x07 :: payload) = .ok .rdRaw6 ∧ Answers .rdRaw6 s (s.regs.raw.get 6).toNat) ∧
    (decode (0x08 :: payload) = .ok .rdRaw7 ∧ Answers .rdRaw7 s (s.regs.raw.get 7).toNat)) ∧
  (∀ (c : Params) (i : Chan), (Regs.resetFor c).raw.get i = 0)

/-- R102: RD_FILT i answers `filt[i]`, zero-extended, and changes nothing but the response. The opcodes are the spec's
assignment (90_conflicts.md C1, decision D3) and what RD_FILT returns is decision D6. -/
def Obligations.FilteredReadsAnswerTheOutput : Prop :=
  ∀ (s : State) (payload : List Byte),
    (decode (0x31 :: payload) = .ok .rdFilt0 ∧ Answers .rdFilt0 s (s.regs.filt.get 0).toNat) ∧
    (decode (0x32 :: payload) = .ok .rdFilt1 ∧ Answers .rdFilt1 s (s.regs.filt.get 1).toNat) ∧
    (decode (0x33 :: payload) = .ok .rdFilt2 ∧ Answers .rdFilt2 s (s.regs.filt.get 2).toNat) ∧
    (decode (0x34 :: payload) = .ok .rdFilt3 ∧ Answers .rdFilt3 s (s.regs.filt.get 3).toNat) ∧
    (decode (0x35 :: payload) = .ok .rdFilt4 ∧ Answers .rdFilt4 s (s.regs.filt.get 4).toNat) ∧
    (decode (0x36 :: payload) = .ok .rdFilt5 ∧ Answers .rdFilt5 s (s.regs.filt.get 5).toNat) ∧
    (decode (0x37 :: payload) = .ok .rdFilt6 ∧ Answers .rdFilt6 s (s.regs.filt.get 6).toNat) ∧
    (decode (0x38 :: payload) = .ok .rdFilt7 ∧ Answers .rdFilt7 s (s.regs.filt.get 7).toNat)

/-- R103: RD_VER answers the parameter FW_VERSION in every state of a legal configuration. -/
def Obligations.VersionReadAnswersTheParameter : Prop :=
  ∀ (s : State) (payload : List Byte), s.cfg.legal = true →
    decode (0x10 :: payload) = .ok .rdVer ∧ Answers .rdVer s s.cfg.fwVersion

/-- R104: RD_STAT answers BoardOn = 1 in bit 0, `trip` in bit 1 and 0 in the other bits. The layout is the spec's decision D19. -/
def Obligations.StatusReadAnswersBoardOnAndTrip : Prop :=
  ∀ (s : State) (payload : List Byte),
    decode (0x11 :: payload) = .ok .rdStat ∧ Answers .rdStat s (if s.regs.trip then 3 else 1)

/-- R105: RD_MODE answers 0 for Off, 1 for PWM and 2 for PID. The codes are the spec's decision D18. -/
def Obligations.ModeReadAnswersTheCode : Prop :=
  ∀ (s : State) (payload : List Byte), decode (0x20 :: payload) = .ok .rdMode ∧
    (s.regs.heaterMode = .off → Answers .rdMode s 0) ∧
    (s.regs.heaterMode = .pwm → Answers .rdMode s 1) ∧
    (s.regs.heaterMode = .pid → Answers .rdMode s 2)

/-- R106: RD_SP answers `set_point`; what WR_SP wrote is answered, for every 16-bit value. -/
def Obligations.SetPointReadAnswersTheTarget : Prop :=
  ∀ (s : State) (payload : List Byte),
    decode (0x21 :: payload) = .ok .rdSp ∧ Answers .rdSp s s.regs.setPoint.toNat ∧
    ∀ v : Word, ∃ t, exec (.wrSp (some v)) s = .next t ∧ Answers .rdSp t v.toNat

/-- R107: RD_SENS answers `control_sensor`, which is 0..7; after a rejected WR_SENS it answers the older value. -/
def Obligations.SensorReadAnswersTheIndex : Prop :=
  ∀ (s : State) (payload : List Byte),
    decode (0x22 :: payload) = .ok .rdSens ∧ Answers .rdSens s s.regs.controlSensor.toNat ∧
    s.regs.controlSensor.toNat ≤ 7 ∧
    ∀ n : Byte, 8 ≤ n.toNat → ∃ t, exec (.wrSens (some n)) s = .next t ∧ Answers .rdSens t s.regs.controlSensor.toNat

/-- R108: RD_PWM answers the compare register in PID mode, where it is at most 1000 in a good state, and the software duty in the
other modes; after a trip it answers the duty. -/
def Obligations.PwmReadAnswersCompareOrDuty : Prop :=
  ∀ (s : State) (payload : List Byte), decode (0x23 :: payload) = .ok .rdPwm ∧
    (s.regs.heaterMode = .pid → Answers .rdPwm s s.regs.cmpReg.toNat) ∧
    (s.regs.heaterMode ≠ .pid → Answers .rdPwm s s.regs.pwmDuty.toNat) ∧
    Answers .rdPwm (tripActions s) s.regs.pwmDuty.toNat ∧
    (s.Good → s.regs.heaterMode = .pid → s.regs.cmpReg.toNat ≤ 1000)

/-- R109: RD_MAX answers `max_temp`; after reset that is DEFAULT_MAX_TEMP, which is not zero. -/
def Obligations.ThresholdReadAnswersMaxTemp : Prop :=
  (∀ (s : State) (payload : List Byte),
    decode (0x24 :: payload) = .ok .rdMax ∧ Answers .rdMax s s.regs.maxTemp.toNat) ∧
  (∀ c : Params, c.legal = true →
    Answers .rdMax (State.resetFor c) c.defaultMaxTemp ∧ c.defaultMaxTemp ≠ 0)

/-- R59: the host cannot reach `acc`, `error_sum`, `last_output`, `pwm_counter`, `sw_out`, `tick_div` or the background flags: two
states that differ in those alone give every command the same response. -/
def Obligations.ResponsesHideInternalRegisters : Prop :=
  ∀ (i : Instr) (s : State) (acc : Lanes Acc) (errorSum : BitVec 11) (lastOutput : Word) (pwmCounter : Byte)
    (swOut : Bool) (tickDiv : Word) (bgWake startReq : Bool) (skip : Byte) (t u : State),
    exec i s = .next t →
    exec i { s with regs := { s.regs with
      acc := acc, errorSum := errorSum, lastOutput := lastOutput, pwmCounter := pwmCounter, swOut := swOut,
      tickDiv := tickDiv, bgWake := bgWake, startReq := startReq, skipLatched := skip } } = .next u →
    t.regs.respLen = u.regs.respLen ∧ t.regs.resp0 = u.regs.resp0 ∧ t.regs.resp1 = u.regs.resp1

/-! ## Write commands, soft reset and unknown opcodes -/

/-- R111: WR_MODE m with m = 0, 1, 2 writes Off, PWM, PID, clears `trip` and de-asserts `sw_out`; m above 2 and an under-length
request change nothing. The codes and the rejection are the spec's decision D18, the clearing of `sw_out` is D23. -/
def Obligations.ModeWriteSelectsTheMode : Prop :=
  ∀ s : State,
    (∀ mode : HeaterMode, ∀ m : Byte, m.toNat = (modeCode mode).toNat →
      exec (.wrMode (some m)) s = .next { s with regs := { s.regs with
        respLen := 0, heaterMode := mode, trip := false, swOut := false } }) ∧
    (∀ m : Byte, 2 < m.toNat → exec (.wrMode (some m)) s = .next (emptied s)) ∧
    exec (.wrMode none) s = .next (emptied s) ∧
    (modeCode .off).toNat = 0 ∧ (modeCode .pwm).toNat = 1 ∧ (modeCode .pid).toNat = 2

/-- R112: WR_SP writes the little-endian value of its two payload bytes, every value is accepted, and a shorter payload changes
nothing. -/
def Obligations.SetPointWriteAcceptsEveryValue : Prop :=
  ∀ s : State,
    (∀ (p0 p1 : Byte) (rest : List Byte), ∃ v : Word, v.toNat = p0.toNat + 256 * p1.toNat ∧
      decode (0x41 :: p0 :: p1 :: rest) = .ok (.wrSp (some v)) ∧
      exec (.wrSp (some v)) s = .next { s with regs := { s.regs with respLen := 0, setPoint := v } }) ∧
    (∀ payload : List Byte, payload.length < 2 → decode (0x41 :: payload) = .ok (.wrSp none)) ∧
    exec (.wrSp none) s = .next (emptied s)

/-- R113: WR_SENS n writes an index below 8, which the next PID update reads; an index of 8 or more and an under-length request
change nothing. -/
def Obligations.SensorWriteKeepsTheIndexValid : Prop :=
  ∀ s : State,
    (∀ (n : Byte) (rest : List Byte), decode (0x42 :: n :: rest) = .ok (.wrSens (some n))) ∧
    decode [0x42] = .ok (.wrSens none) ∧
    (∀ (n : Byte) (h : n.toNat < 8), ∃ k : BitVec 3, k.toNat = n.toNat ∧
      exec (.wrSens (some n)) s = .next { s with regs := { s.regs with respLen := 0, controlSensor := k } } ∧
      controlReading { s.regs with respLen := 0, controlSensor := k } = (s.regs.raw.get ⟨n.toNat, h⟩).toNat) ∧
    (∀ n : Byte, 8 ≤ n.toNat → exec (.wrSens (some n)) s = .next (emptied s)) ∧
    exec (.wrSens none) s = .next (emptied s)

/-- R114: WR_PWM writes its payload byte, whatever it is and in every mode, and does not reset the counter; an under-length
request changes nothing. The next background pass in PWM mode compares with the new duty, and RD_PWM does not answer it while
the mode is PID. That the pass compares the incremented counter is R97 with the spec's decision D22 (log 17), not R114. -/
def Obligations.DutyWriteAcceptsEveryByte : Prop :=
  ∀ s : State,
    (∀ (d : Byte) (rest : List Byte), decode (0x43 :: d :: rest) = .ok (.wrPwm (some d)) ∧
      exec (.wrPwm (some d)) s = .next { s with regs := { s.regs with respLen := 0, pwmDuty := d } }) ∧
    decode [0x43] = .ok (.wrPwm none) ∧ exec (.wrPwm none) s = .next (emptied s) ∧
    (∀ (d : Byte) (t : State), exec (.wrPwm (some d)) s = .next t →
      (s.regs.bgWake = true → s.regs.heaterMode = .pwm →
        ((backgroundPass t).regs.swOut = true ↔ (s.regs.pwmCounter.toNat + 1) % 256 < d.toNat)) ∧
      (s.regs.heaterMode = .pid → Answers .rdPwm t s.regs.cmpReg.toNat))

/-- R115: WR_MAX writes the little-endian value of its two payload bytes and keeps a latched trip; a shorter payload changes
nothing. The comparator uses the new threshold from then on, and 0 disables it. What the comparator compares is R83, with the
spec's decisions D12 (the channels of TEMP_MASK) and D31 (an unsigned 16-bit comparison; log 21), not R115. -/
def Obligations.ThresholdWriteKeepsTheTrip : Prop :=
  ∀ s : State,
    (∀ (p0 p1 : Byte) (rest : List Byte), ∃ v : Word, v.toNat = p0.toNat + 256 * p1.toNat ∧
      decode (0x44 :: p0 :: p1 :: rest) = .ok (.wrMax (some v)) ∧
      exec (.wrMax (some v)) s = .next { s with regs := { s.regs with respLen := 0, maxTemp := v } }) ∧
    (∀ payload : List Byte, payload.length < 2 → decode (0x44 :: payload) = .ok (.wrMax none)) ∧
    exec (.wrMax none) s = .next (emptied s) ∧
    (∀ (v : Word) (t : State), exec (.wrMax (some v)) s = .next t →
      (overTemp t.cfg t.regs = true ↔ v.toNat ≠ 0 ∧
        ∃ i : Chan, s.cfg.tempMask.getLsbD i = true ∧ v.toNat < (s.regs.raw.get i).toNat))

/-- R116: SRST resets every register, whatever its payload; its step raises `sys_restart`, runs no background slot and leaves the
pin de-asserted. When it takes effect within the step is the spec's decision D27. -/
def Obligations.SoftResetRestartsTheBlock : Prop :=
  (∀ payload : List Byte, decode (0x50 :: payload) = .ok .srst) ∧
  (∀ s : State, exec .srst s =
    .next { s with regs := Regs.resetFor s.cfg, out := { s.out with sysRestart := true } }) ∧
  (∀ s t : State, (sampleInputs s).rst = false → requests (sampleInputs s) .srst → step s = .next t →
    t.regs = Regs.resetFor s.cfg ∧ t.out.sysRestart = true ∧ t.out.adcStart = false ∧ t.out.heaterPin = false)

/-- R117: an unknown opcode, with any payload, empties the response and changes nothing else, so that a read phase after it
returns zero bytes. -/
def Obligations.UnknownOpcodeIsIgnored : Prop :=
  ∀ (op : Byte) (payload : List Byte), unknownOpcode op = true →
    decode (op :: payload) = .ok (.unknown op) ∧
    ∀ s : State, exec (.unknown op) s = .next (emptied s) ∧
      ∀ n, respBytes (emptied s).regs n = List.replicate n 0

/-- R110: every write command completes, empties the response, and changes no `raw`, `acc`, `filt`, `error_sum`, `last_output`,
`cmp_reg`, `pwm_counter` or `tick_div`; under-length it changes nothing else at all; surplus payload is ignored. -/
def Obligations.WritesLeaveTheDatapathAlone : Prop :=
  ∀ (i : Instr) (s : State), isRead i = false → i ≠ .srst → (∀ op, i ≠ .unknown op) →
    (∃ t, exec i s = .next t ∧ t.regs.respLen = 0 ∧ t.regs.raw = s.regs.raw ∧ t.regs.acc = s.regs.acc ∧
      t.regs.filt = s.regs.filt ∧ t.regs.errorSum = s.regs.errorSum ∧ t.regs.lastOutput = s.regs.lastOutput ∧
      t.regs.cmpReg = s.regs.cmpReg ∧ t.regs.pwmCounter = s.regs.pwmCounter ∧ t.regs.tickDiv = s.regs.tickDiv) ∧
    (fullLength i = false → exec i s = .next (emptied s)) ∧
    (fullLength i = true → ∀ extra, decode (encode i ++ extra) = .ok i)

/-! ## The read phase -/

/-- R51: a read phase returns the response bytes as the previous request left them, padded with zeros, even when a request arrives
in the same step. A step with no request and no reset keeps the response buffer, with or without a read phase, so a second
read phase returns the bytes of the first. The buffer's life and the order are the spec's decisions D21 and D41 (log 22). -/
def Obligations.ReadPhaseReturnsThePreviousResponse : Prop :=
  (∀ (s t : State) (n : Nat), s.Good → step s = .next t → (sampleInputs s).rst = false →
    (sampleInputs s).rdCount = some n →
    (s.regs.respLen = 2 → t.out.rdData = ([s.regs.resp0, s.regs.resp1] ++ List.replicate n 0).take n) ∧
    (s.regs.respLen = 0 → t.out.rdData = List.replicate n 0)) ∧
  (∀ s t : State, step s = .next t → (sampleInputs s).rst = false → (sampleInputs s).req = none →
    t.regs.respLen = s.regs.respLen ∧ t.regs.resp0 = s.regs.resp0 ∧ t.regs.resp1 = s.regs.resp1) ∧
  (∀ (s t u : State) (n : Nat), step s = .next t → step t = .next u →
    (sampleInputs s).rst = false → (sampleInputs s).req = none → (sampleInputs t).rst = false →
    (sampleInputs s).rdCount = some n → (sampleInputs t).rdCount = some n → u.out.rdData = t.out.rdData)

/-- R106 and 95_test_vectors.md S6, through the interface: after a WR_SP, an RD_SP and a read phase, in three steps with any other
inputs but a reset, the master holds the bytes of the value written. It rests on the event order, decision D2. -/
def Obligations.SetPointRoundTripsThroughTheInterface : Prop :=
  ∀ (s : State) (a b c : Inputs) (rest : List Inputs) (v : Word) (n : Nat),
    s.cfg.legal = true → s.inputs = a :: b :: c :: rest →
    a.inRange s.cfg = true → b.inRange s.cfg = true → c.inRange s.cfg = true →
    a.rst = false → b.rst = false → c.rst = false →
    requests a (.wrSp (some v)) → requests b .rdSp → c.rdCount = some n →
    ∃ t, Host.Core.run Sys2Proof.core 3 s = .next t ∧
      t.out.rdData =
        ([BitVec.ofNat 8 (v.toNat % 256), BitVec.ofNat 8 (v.toNat / 256)] ++ List.replicate n 0).take n

/-! ## The filter bank -/

/-- R72, R73, R80: a conversion captures exactly the lanes that the batch carries and the request did not skip, keeps the others'
three registers, wakes the background sequencer and changes no other register. The lane selection is the spec's decisions D8
and D32. -/
def Obligations.ConversionCapturesTheSelectedLanes : Prop :=
  ∀ (b : Batch) (s : State),
    (∀ i : Chan, b.chanValid.getLsbD i = true → s.regs.skipLatched.getLsbD i = false →
      (convertBatch b s).regs.raw.get i = b.data.get i) ∧
    (∀ i : Chan, b.chanValid.getLsbD i = false ∨ s.regs.skipLatched.getLsbD i = true →
      (convertBatch b s).regs.raw.get i = s.regs.raw.get i ∧
      (convertBatch b s).regs.acc.get i = s.regs.acc.get i ∧
      (convertBatch b s).regs.filt.get i = s.regs.filt.get i) ∧
    convertBatch b s = { s with regs := { s.regs with
      raw := (convertBatch b s).regs.raw, acc := (convertBatch b s).regs.acc, filt := (convertBatch b s).regs.filt,
      bgWake := true } }

/-- R75: for a selected lane whose accumulator is in its range (R76), the step is `a = acc + x`, `y = (a + 2^(K-1)) >> K`,
`acc <- a - y`, `filt <- y`, exactly. -/
def Obligations.EmaStepIsExact : Prop :=
  ∀ (b : Batch) (s : State) (i : Chan), s.cfg.legal = true →
    (s.regs.acc.get i).toNat ≤ 4095 * (2 ^ s.cfg.emaK.get i - 1) →
    b.chanValid.getLsbD i = true → s.regs.skipLatched.getLsbD i = false →
    ∃ a y : Nat, a = (s.regs.acc.get i).toNat + filterInput s.cfg i (b.data.get i) ∧
      y = (a + 2 ^ (s.cfg.emaK.get i - 1)) >>> s.cfg.emaK.get i ∧
      ((convertBatch b s).regs.acc.get i).toNat + y = a ∧
      ((convertBatch b s).regs.filt.get i).toNat = y

/-- R74: the filter input is 0 exactly when the low-pass flag is set and the reading is at or above the threshold, else the
reading. That the flag gates only this substitution is the spec's decision D7. -/
def Obligations.LowPassClampSubstitutesZero : Prop :=
  ∀ (c : Params) (i : Chan) (r : Code),
    (c.lpe.get i = true → c.clampThr.get i ≤ r.toNat → filterInput c i r = 0) ∧
    (c.lpe.get i = false → filterInput c i r = r.toNat) ∧
    (r.toNat < c.clampThr.get i → filterInput c i r = r.toNat)

/-- R76 (derived by the spec from R75): with inputs and accumulator in range, the accumulator stays in range, the output is at
most 4095, and the intermediate value fits in 12 + K bits. R17: whatever the accumulators held, after a conversion a selected
lane's accumulator has no bit above its 12 + EMA_K[i], and the lane's step depends on no such bit of the storage; that a value
beyond the width is cut to it is the model's choice (log 8). -/
def Obligations.EmaStaysInRange : Prop :=
  (∀ k acc x : Nat, 1 ≤ k → x ≤ 4095 → acc ≤ 4095 * (2 ^ k - 1) →
    (emaStep k acc x).1 ≤ 4095 * (2 ^ k - 1) ∧ (emaStep k acc x).2 ≤ 4095 ∧
    acc + x + 2 ^ (k - 1) < 2 ^ (12 + k)) ∧
  (∀ (b : Batch) (s : State) (i : Chan), s.cfg.legal = true →
    b.chanValid.getLsbD i = true → s.regs.skipLatched.getLsbD i = false →
    ((convertBatch b s).regs.acc.get i).toNat < 2 ^ (12 + s.cfg.emaK.get i) ∧
    ∀ acc : Lanes Acc,
      (acc.get i).toNat % 2 ^ (12 + s.cfg.emaK.get i) = (s.regs.acc.get i).toNat % 2 ^ (12 + s.cfg.emaK.get i) →
      (convertBatch b { s with regs := { s.regs with acc := acc } }).regs.acc.get i =
        (convertBatch b s).regs.acc.get i ∧
      (convertBatch b { s with regs := { s.regs with acc := acc } }).regs.filt.get i =
        (convertBatch b s).regs.filt.get i)

/-- R78: a lane's registers after a conversion depend on that lane's registers, parameters, reading and selection alone; a lane not
selected keeps its three registers. -/
def Obligations.LanesAreIndependent : Prop :=
  ∀ (b d : Batch) (s t : State) (i : Chan),
    s.cfg.emaK.get i = t.cfg.emaK.get i → s.cfg.lpe.get i = t.cfg.lpe.get i →
    s.cfg.clampThr.get i = t.cfg.clampThr.get i →
    s.regs.raw.get i = t.regs.raw.get i → s.regs.acc.get i = t.regs.acc.get i →
    s.regs.filt.get i = t.regs.filt.get i →
    b.data.get i = d.data.get i → laneSelected b s.regs i = laneSelected d t.regs i →
    (convertBatch b s).regs.raw.get i = (convertBatch d t).regs.raw.get i ∧
    (convertBatch b s).regs.acc.get i = (convertBatch d t).regs.acc.get i ∧
    (convertBatch b s).regs.filt.get i = (convertBatch d t).regs.filt.get i ∧
    (laneSelected b s.regs i = false →
      (convertBatch b s).regs.raw.get i = s.regs.raw.get i ∧
      (convertBatch b s).regs.acc.get i = s.regs.acc.get i ∧
      (convertBatch b s).regs.filt.get i = s.regs.filt.get i)

/-- R77 item 1 (derived by the spec from R75): the output equals the input exactly in the band
`[x*(2^K-1) - half, x*(2^K-1) + half - 1]`, and every accumulator in the band is a fixed point. -/
def Obligations.EmaFixedPointsAreTheBand : Prop :=
  ∀ k acc x : Nat, 1 ≤ k →
    ((emaStep k acc x).2 = x ↔
      x * (2 ^ k - 1) ≤ acc + 2 ^ (k - 1) ∧ acc + 1 ≤ x * (2 ^ k - 1) + 2 ^ (k - 1)) ∧
    ((emaStep k acc x).2 = x → (emaStep k acc x).1 = acc)

/-- R77 item 2 (derived by the spec from R75): for a constant input to a selected lane, held from any accumulator in its range, the
filter output reaches the input in finitely many conversions and stays there. -/
def Obligations.EmaConvergesToAConstantInput : Prop :=
  ∀ (b : Batch) (s : State) (i : Chan), s.cfg.legal = true →
    (s.regs.acc.get i).toNat ≤ 4095 * (2 ^ s.cfg.emaK.get i - 1) →
    b.chanValid.getLsbD i = true → s.regs.skipLatched.getLsbD i = false →
    ∃ n, ∀ m, n ≤ m →
      ((((convertBatch b)^[m + 1]) s).regs.filt.get i).toNat = filterInput s.cfg i (b.data.get i)

/-- R79, R73, R75, R121: after a step without a reset, whatever it does besides, `raw`, `acc` and `filt` are those its conversion
gives, and without a conversion they keep their values; both resets return them to 0. That the conversion is the step's first
event is the spec's decision D2 (log 12), the lanes it updates are D8 (log 16). -/
def Obligations.OnlyConversionsAndResetsWriteTheFilterBank : Prop :=
  ∀ s t : State, step s = .next t →
    (NoReset (sampleInputs s) →
      t.regs.raw = (conversionEvent (sampleInputs s) s).regs.raw ∧
      t.regs.acc = (conversionEvent (sampleInputs s) s).regs.acc ∧
      t.regs.filt = (conversionEvent (sampleInputs s) s).regs.filt) ∧
    ((sampleInputs s).conv = none → (sampleInputs s).rst = false → ¬ requests (sampleInputs s) .srst →
      t.regs.raw = s.regs.raw ∧ t.regs.acc = s.regs.acc ∧ t.regs.filt = s.regs.filt) ∧
    ((sampleInputs s).rst = true ∨ requests (sampleInputs s) .srst →
      t.regs.raw = Lanes.replicate 0 ∧ t.regs.acc = Lanes.replicate 0 ∧ t.regs.filt = Lanes.replicate 0)

/-! ## The Safety Monitor -/

/-- R83: the comparator is true exactly when `max_temp` is not 0 and a channel of TEMP_MASK reads strictly above it, as unsigned
numbers; so it is false for a threshold of 4095 or more and for an empty mask. In a step without a power-on reset a trip occurs
exactly when the step's timer tick is a control tick and that holds of the readings after the step's conversion and of the
threshold before its request, in every mode. The monitored channels and ticks are the spec's decision D12, the width of the
comparison D31 (log 21), the order of the events D2 (log 12), the lanes a conversion captures D8 (log 16). -/
def Obligations.ComparatorIsStrictOverTheMonitoredChannels : Prop :=
  (∀ (c : Params) (r : Regs),
    (overTemp c r = true ↔ r.maxTemp.toNat ≠ 0 ∧
      ∃ i : Chan, c.tempMask.getLsbD i = true ∧ r.maxTemp.toNat < (r.raw.get i).toNat) ∧
    (4095 ≤ r.maxTemp.toNat → overTemp c r = false) ∧
    (c.tempMask = 0 → overTemp c r = false)) ∧
  (∀ s t : State, step s = .next t → (sampleInputs s).rst = false →
    (t.out.tripNow = true ↔
      (sampleInputs s).tick = true ∧ s.regs.tickDiv.toNat + 1 = s.cfg.tickDivM ∧ s.regs.maxTemp.toNat ≠ 0 ∧
      ∃ i : Chan, s.cfg.tempMask.getLsbD i = true ∧
        s.regs.maxTemp.toNat < (readingUsed (sampleInputs s) s i).toNat))

/-- R84, R82 and 95_test_vectors.md S3: in a step whose control tick finds a monitored reading above the threshold, and that carries
no request and no reset, the mode becomes Off, the trip is latched, the pin is de-asserted, and the PID registers, the PWM
counter and the configuration registers keep their values. The one-step signal is the spec's decision D42, the readings are
those after the step's conversion by D2 (log 12). That a trip keeps `cmp_reg`, `last_output` and `error_sum` is D17 (log 13),
that it clears `sw_out` and keeps the PWM counter D23 (log 17), that the monitor runs on every control tick in every mode over
the channels of TEMP_MASK D12, with the divider's phase of D13 (log 21). -/
def Obligations.OverTemperatureForcesOff : Prop :=
  ∀ s t : State, step s = .next t → (sampleInputs s).rst = false → (sampleInputs s).req = none →
    tripDue (sampleInputs s) s →
    t.regs.heaterMode = .off ∧ t.regs.trip = true ∧ t.regs.swOut = false ∧ t.out.heaterPin = false ∧
    t.regs.tickDiv = 0 ∧ t.regs.cmpReg = s.regs.cmpReg ∧ t.regs.lastOutput = s.regs.lastOutput ∧
    t.regs.errorSum = s.regs.errorSum ∧ t.regs.pwmCounter = s.regs.pwmCounter ∧
    t.regs.pwmDuty = s.regs.pwmDuty ∧ t.regs.setPoint = s.regs.setPoint ∧
    t.regs.controlSensor = s.regs.controlSensor ∧ t.regs.maxTemp = s.regs.maxTemp

/-- R53: when a trip and an accepted WR_MODE fall in one step, the written mode stands and `trip` is clear, and the pin is still 0
in that step. The order is the spec's decisions D2 and D42. -/
def Obligations.TripWinsThePinOverAModeWrite : Prop :=
  ∀ (s t : State) (mode : HeaterMode), step s = .next t → (sampleInputs s).rst = false →
    tripDue (sampleInputs s) s → WritesMode (sampleInputs s) mode →
    t.regs.heaterMode = mode ∧ t.regs.trip = false ∧ t.out.tripNow = true ∧ t.out.heaterPin = false

/-- R85, R24: `trip` is cleared only by a reset or an accepted WR_MODE, and each of them clears it; it is set only by a trip, and
a trip sets it unless an accepted WR_MODE of the same step clears it. In particular a step whose control tick finds the condition, with no such write or reset of its own, leaves it set,
whatever cleared it before (R85, derived by the spec from R83 and R84). That a byte above 2 is no accepted WR_MODE is the spec's decision D18; that WR_MODE
clears it while the condition persists is D30, and in the very step of a trip D2 and D42 (log 12, log 15). -/
def Obligations.TripStaysLatched : Prop :=
  ∀ s t : State, step s = .next t →
    (s.regs.trip = true → t.regs.trip = false →
      (sampleInputs s).rst = true ∨ requests (sampleInputs s) .srst ∨ ∃ mode, WritesMode (sampleInputs s) mode) ∧
    ((sampleInputs s).rst = true ∨ requests (sampleInputs s) .srst ∨ (∃ mode, WritesMode (sampleInputs s) mode) →
      t.regs.trip = false) ∧
    (s.regs.trip = false → t.regs.trip = true → tripDue (sampleInputs s) s) ∧
    (NoReset (sampleInputs s) → (∀ mode, ¬ WritesMode (sampleInputs s) mode) → tripDue (sampleInputs s) s →
      t.regs.trip = true)

/-- R86: with `max_temp = 0` the comparator is false, whatever the readings, so a step that begins with `max_temp = 0` does not trip,
even if its request is a WR_MAX: the step's tick comes before its request (R121, the spec's decision D2; log 12). Disabling by
WR_MAX 0 does not clear a latched trip (derived by the spec). -/
def Obligations.DisabledInterlockNeverTrips : Prop :=
  (∀ c r, r.maxTemp = 0 → overTemp c r = false) ∧
  (∀ s t : State, step s = .next t → s.regs.maxTemp = 0 → t.out.tripNow = false) ∧
  (∀ s : State, exec (.wrMax (some 0)) s = .next { s with regs := { s.regs with respLen := 0, maxTemp := 0 } })

/-- R81, R31: from a divider at 0, the first TICK_DIV_M - 1 timer ticks only count, and the TICK_DIV_M-th is a control tick that
finds the divider at 0 again. In a step without a reset the divider advances by one, modulo TICK_DIV_M, when the timer ticks
and holds its value when it does not, in every mode and whatever else the step does. The phase is the spec's decision D13. -/
def Obligations.DividerGivesEveryMthTick : Prop :=
  (∀ s : State, s.cfg.legal = true → s.regs.tickDiv = 0 →
    (∀ n, n < s.cfg.tickDivM →
      (timerTick^[n]) s = { s with regs := { s.regs with tickDiv := BitVec.ofNat 16 n } }) ∧
    (timerTick^[s.cfg.tickDivM]) s = controlTick s) ∧
  (∀ s t : State, step s = .next t → NoReset (sampleInputs s) →
    ((sampleInputs s).tick = false → t.regs.tickDiv = s.regs.tickDiv) ∧
    ((sampleInputs s).tick = true → s.regs.tickDiv.toNat < s.cfg.tickDivM →
      t.regs.tickDiv.toNat = (s.regs.tickDiv.toNat + 1) % s.cfg.tickDivM))

/-! ## The PID controller -/

/-- R87, R89 to R91: with no trip, in PID mode and with the reading in range, a control tick makes one PID update: exact integer
arithmetic, the shift rounding toward minus infinity, the integrator clamped before the output is computed. The integer
semantics are the spec's decision D14, the bounds and gains D15. -/
def Obligations.PidUpdateIsExact : Prop :=
  ∀ s : State, overTemp s.cfg s.regs = false → s.regs.heaterMode = .pid →
    ∀ r e sum : Int, r = ((s.regs.raw.get s.regs.controlSensor.toFin).toNat : Int) →
    (s.cfg.minAdc : Int) ≤ r → r ≤ (s.cfg.maxAdc : Int) →
    e = (s.regs.setPoint.toNat : Int) - r →
    sum = max 0 (min 1000 (s.regs.errorSum.toInt + Int.fdiv e (2 ^ s.cfg.iShift))) →
    ∃ (es : BitVec 11) (o : Word), es.toInt = sum ∧
      (o.toNat : Int) = max 0 (min 1000 ((s.cfg.pGain : Int) * e + sum)) ∧
      controlTick s = { s with regs := { s.regs with errorSum := es, lastOutput := o, cmpReg := o } }

/-- R88: with the reading out of range a PID update forces the output to 0 and keeps the integrator and everything else. That no
indicator is cleared is the spec's decision D16. -/
def Obligations.ReadingOutOfRangeForcesZeroOutput : Prop :=
  ∀ s : State, overTemp s.cfg s.regs = false → s.regs.heaterMode = .pid →
    ((s.regs.raw.get s.regs.controlSensor.toFin).toNat < s.cfg.minAdc ∨
      s.cfg.maxAdc < (s.regs.raw.get s.regs.controlSensor.toFin).toNat) →
    controlTick s = { s with regs := { s.regs with lastOutput := 0, cmpReg := 0 } }

/-- R89: the error is the signed difference of set point and reading, and lies in [-4095, 65535]. -/
def Obligations.PidErrorIsTheSignedDifference : Prop :=
  ∀ r : Regs, pidError r (controlReading r) =
      (r.setPoint.toNat : Int) - ((r.raw.get r.controlSensor.toFin).toNat : Int) ∧
    -4095 ≤ pidError r (controlReading r) ∧ pidError r (controlReading r) ≤ 65535

/-- R93, R87 to R91: in a step with no reset and no PID update, whatever it does to the mode, `error_sum`, `last_output` and `cmp_reg`
keep their values; in a step with a PID update and no reset they become what the update gives, whatever else the step does;
both resets clear them. That the update uses the readings after the step's conversion, and the mode and the threshold before its
request, is R121, the spec's decision D2 (log 12); that a trip and a mode change keep `cmp_reg` is D17, the integer semantics
D14 (log 13). -/
def Obligations.PidStatePersistsAcrossModes : Prop :=
  ∀ s t : State, step s = .next t →
    ((sampleInputs s).rst = false → ¬ requests (sampleInputs s) .srst → ¬ PidUpdateDue (sampleInputs s) s →
      t.regs.errorSum = s.regs.errorSum ∧ t.regs.lastOutput = s.regs.lastOutput ∧ t.regs.cmpReg = s.regs.cmpReg) ∧
    (NoReset (sampleInputs s) → PidUpdateDue (sampleInputs s) s →
      ∀ r e sum : Int, r = ((readingUsed (sampleInputs s) s s.regs.controlSensor.toFin).toNat : Int) →
      e = (s.regs.setPoint.toNat : Int) - r →
      sum = max 0 (min 1000 (s.regs.errorSum.toInt + Int.fdiv e (2 ^ s.cfg.iShift))) →
      ((s.cfg.minAdc : Int) ≤ r → r ≤ (s.cfg.maxAdc : Int) →
        t.regs.errorSum.toInt = sum ∧
        (t.regs.cmpReg.toNat : Int) = max 0 (min 1000 ((s.cfg.pGain : Int) * e + sum)) ∧
        t.regs.lastOutput = t.regs.cmpReg) ∧
      (r < (s.cfg.minAdc : Int) ∨ (s.cfg.maxAdc : Int) < r →
        t.regs.errorSum = s.regs.errorSum ∧ t.regs.lastOutput = 0 ∧ t.regs.cmpReg = 0)) ∧
    ((sampleInputs s).rst = true ∨ requests (sampleInputs s) .srst →
      t.regs.errorSum = 0 ∧ t.regs.lastOutput = 0 ∧ t.regs.cmpReg = 0)

/-! ## The heater actuator -/

/-- R94: an accepted WR_MODE gives the mode it carries, from any mode; a trip with no such write gives Off, and so do the resets; no
other event changes the mode. R94 does not say which of the two stands when a trip and a WR_MODE fall in one step: that the
written mode does is R53 with the spec's decisions D2 and D42 (log 12; U2). The mode codes are decision D18 (log 15). -/
def Obligations.ModeChangesOnlyByWriteTripOrReset : Prop :=
  ∀ s t : State, step s = .next t →
    ((sampleInputs s).rst = true → t.regs.heaterMode = .off) ∧
    ((sampleInputs s).rst = false →
      (∀ mode, WritesMode (sampleInputs s) mode → t.regs.heaterMode = mode) ∧
      (requests (sampleInputs s) .srst → t.regs.heaterMode = .off) ∧
      ((∀ mode, ¬ WritesMode (sampleInputs s) mode) → ¬ requests (sampleInputs s) .srst →
        (tripDue (sampleInputs s) s → t.regs.heaterMode = .off) ∧
        (¬ tripDue (sampleInputs s) s → t.regs.heaterMode = s.regs.heaterMode)))

/-- R95, R14: at the end of a step without a power-on reset exactly one source drives the pin: none after a trip of the step, the
compare unit in PID mode, the software level otherwise. The arbiter is the spec's decisions D24 and D42. That `trip_now` is raised
exactly when the step's control tick trips is R81 to R84, with the monitored channels and ticks of D12 (log 21) and, for the
readings after the step's conversion and the threshold before its request, the event order D2 (log 12). -/
def Obligations.ArbiterSelectsOneDriver : Prop :=
  ∀ s t : State, step s = .next t → (sampleInputs s).rst = false →
    (t.out.tripNow = true → t.out.heaterPin = false) ∧
    (t.out.tripNow = false → t.regs.heaterMode = .pid → t.out.heaterPin = (sampleInputs s).cmpWave) ∧
    (t.out.tripNow = false → t.regs.heaterMode ≠ .pid → t.out.heaterPin = t.regs.swOut) ∧
    (t.out.cmpRoute = true ↔ t.regs.heaterMode = .pid) ∧ t.out.cmpValue = t.regs.cmpReg ∧
    (tripDue (sampleInputs s) s → t.out.tripNow = true) ∧ (t.out.tripNow = true → tripDue (sampleInputs s) s)

/-- R97, R98, R80: a step with a conversion and no other event makes one background pass, issues the next conversion request with
the skip mask of the state after the pass, and changes no other register than those of the pass, the request and the
filter bank. R29, R30, R97: in every step without a reset, `pwm_counter` advances exactly when a pass is made and the mode at
the pass is PWM; `sw_out` holds its value when no pass is made or the mode is PID, unless a trip or an accepted WR_MODE clears
it. Pass and request in the conversion's step are the spec's decisions D9 and D10, the counter before the compare D22, the
clearing of `sw_out` by WR_MODE D23 (log 16, log 17), the order of the events D2 (log 12). -/
def Obligations.ConversionStepMakesOnePass : Prop :=
  (∀ s t : State, step s = .next t → ConversionOnly (sampleInputs s) → (sampleInputs s).conv.isSome = true →
    (s.regs.heaterMode = .pwm →
      t.regs.pwmCounter.toNat = (s.regs.pwmCounter.toNat + 1) % 256 ∧
      (t.regs.swOut = true ↔ t.regs.pwmCounter.toNat < s.regs.pwmDuty.toNat)) ∧
    (s.regs.heaterMode = .off → t.regs.pwmCounter = s.regs.pwmCounter ∧ t.regs.swOut = false) ∧
    (s.regs.heaterMode = .pid → t.regs.pwmCounter = s.regs.pwmCounter ∧ t.regs.swOut = s.regs.swOut) ∧
    t.regs.bgWake = false ∧ t.regs.startReq = false ∧ t.out.adcStart = true ∧
    t.out.adcSkip = (if s.regs.heaterMode = .pwm ∧ t.regs.swOut = false then s.cfg.viMask else 0) ∧
    t.regs.skipLatched = t.out.adcSkip ∧ t.regs.heaterMode = s.regs.heaterMode ∧
    t.regs.setPoint = s.regs.setPoint ∧ t.regs.controlSensor = s.regs.controlSensor ∧
    t.regs.pwmDuty = s.regs.pwmDuty ∧ t.regs.maxTemp = s.regs.maxTemp ∧ t.regs.trip = s.regs.trip ∧
    t.regs.errorSum = s.regs.errorSum ∧ t.regs.lastOutput = s.regs.lastOutput ∧ t.regs.cmpReg = s.regs.cmpReg ∧
    t.regs.tickDiv = s.regs.tickDiv ∧ t.regs.respLen = s.regs.respLen ∧ t.regs.resp0 = s.regs.resp0 ∧
    t.regs.resp1 = s.regs.resp1 ∧ t.regs.raw = (conversionEvent (sampleInputs s) s).regs.raw ∧
    t.regs.acc = (conversionEvent (sampleInputs s) s).regs.acc ∧
    t.regs.filt = (conversionEvent (sampleInputs s) s).regs.filt) ∧
  (∀ s t : State, step s = .next t → NoReset (sampleInputs s) →
    (PassDue (sampleInputs s) s → t.regs.heaterMode = .pwm →
      t.regs.pwmCounter.toNat = (s.regs.pwmCounter.toNat + 1) % 256 ∧
      (t.regs.swOut = true ↔ t.regs.pwmCounter.toNat < t.regs.pwmDuty.toNat)) ∧
    (¬ PassDue (sampleInputs s) s ∨ t.regs.heaterMode ≠ .pwm → t.regs.pwmCounter = s.regs.pwmCounter) ∧
    (PassDue (sampleInputs s) s → t.regs.heaterMode = .off → t.regs.swOut = false) ∧
    (¬ PassDue (sampleInputs s) s ∨ t.regs.heaterMode = .pid →
      (DriveForcedOff (sampleInputs s) s → t.regs.swOut = false) ∧
      (¬ DriveForcedOff (sampleInputs s) s → t.regs.swOut = s.regs.swOut)))

/-- R99 (derived by the spec from R97): in PWM mode, over 256 consecutive conversion steps `sw_out` is 1 after exactly `pwm_duty` of
them, from any counter value. -/
def Obligations.SoftwarePwmMeetsItsDuty : Prop :=
  ∀ s : State, s.cfg.legal = true → s.regs.heaterMode = .pwm → s.inputs.length = 256 →
    (∀ inp ∈ s.inputs, ConversionOnly inp ∧ inp.conv.isSome = true) →
    (List.range 256).countP (fun k =>
      match Host.Core.run Sys2Proof.core (k + 1) s with
      | .next t => t.regs.swOut
      | _ => false) = s.regs.pwmDuty.toNat

/-- R131, R32, R33, R98: a step that resets nothing leaves the background sequencer idle, and it issues a conversion
request exactly when a request was still to be issued, a wake was pending or a conversion arrived. `skip_latched` changes in no step without a
request; a step with one latches the mask it sends, which is VI_MASK when the mode and the drive after the step are PWM and
de-asserted, and 0 otherwise. That the pass runs in the conversion's step is the spec's decision D10 (log 17), the mask D9
(log 16), the request of the host before the background slot D2 (log 12), the idle state D39. -/
def Obligations.SequencerIsIdleAfterEveryStep : Prop :=
  ∀ s t : State, step s = .next t → (sampleInputs s).rst = false → ¬ requests (sampleInputs s) .srst →
    t.regs.bgWake = false ∧ t.regs.startReq = false ∧
    (t.out.adcStart = true ↔
      s.regs.startReq = true ∨ s.regs.bgWake = true ∨ (sampleInputs s).conv.isSome = true) ∧
    (t.out.adcStart = false → t.regs.skipLatched = s.regs.skipLatched) ∧
    (t.out.adcStart = true →
      t.out.adcSkip = (if t.regs.heaterMode = .pwm ∧ t.regs.swOut = false then s.cfg.viMask else 0) ∧
      t.regs.skipLatched = t.out.adcSkip)

/-! ## Reset -/

/-- R132: a step with `rst = 1` sets every register to its reset value (R42) whatever the other inputs, its outputs are 0, and a read
phase gets zero bytes. The port and the reset values the source does not list are the spec's decisions D49 and D25. -/
def Obligations.PowerOnResetStep : Prop :=
  ∀ s t : State, step s = .next t → (sampleInputs s).rst = true →
    t.regs = Regs.resetFor s.cfg ∧
    t.out.heaterPin = false ∧ t.out.cmpValue = 0 ∧ t.out.cmpRoute = false ∧ t.out.adcStart = false ∧
    t.out.sysRestart = false ∧
    (∀ n, (sampleInputs s).rdCount = some n → t.out.rdData = List.replicate n 0)

/-- R133: a soft reset leaves exactly the registers a power-on reset leaves, and their steps differ in the outputs alone: the soft
reset's step asserts `sys_restart` and may carry the bytes of a read phase served before the request. -/
def Obligations.SoftResetEqualsPowerOnReset : Prop :=
  ∀ s u t v : State, s.cfg = u.cfg →
    step s = .next t → (sampleInputs s).rst = true →
    step u = .next v → (sampleInputs u).rst = false → requests (sampleInputs u) .srst →
    v.regs = t.regs ∧ v.cfg = t.cfg ∧ t.out.sysRestart = false ∧ v.out.sysRestart = true ∧
    v.out.heaterPin = t.out.heaterPin ∧ v.out.cmpValue = t.out.cmpValue ∧ v.out.cmpRoute = t.out.cmpRoute ∧
    v.out.adcStart = t.out.adcStart ∧
    (∀ n, (sampleInputs u).rdCount = some n → v.out.rdData = respBytes u.regs n)

/-- R134: the first step after a reset, with no reset and no request of its own, issues a conversion request with an empty skip mask,
in mode Off with the pin de-asserted. The first action is the spec's decision D11. A request of that very step could change the
mode first (log 20), so the statement is for a step without one. -/
def Obligations.FirstStepAfterResetRequestsAConversion : Prop :=
  ∀ s t : State, s.regs = Regs.resetFor s.cfg → step s = .next t →
    (sampleInputs s).rst = false → (sampleInputs s).req = none →
    t.out.adcStart = true ∧ t.out.adcSkip = 0 ∧ t.regs.heaterMode = .off ∧ t.out.heaterPin = false

/-- R41 at reset: the registers are good after a reset of every legal configuration, the reference configuration of
`State.reset` (the model's choice, log 3) among them. -/
def Obligations.ResetStateIsGood : Prop :=
  (∀ c : Params, c.legal = true → (State.resetFor c).Good) ∧ State.reset.Good

/-- R41, R76, R92 (derived by the spec from R42 and the writer rules): every step keeps the invariants, from every state that meets
them and whatever the inputs. -/
def Obligations.StepKeepsTheInvariants : Prop :=
  ∀ s t : State, s.Good → step s = .next t → t.Good

/-- R84, R95: from a good state, a step that leaves the heater pin asserted had no trip and did not end in mode Off. It rests on the
invariant `heater_mode != PWM` implies `sw_out = 0` (R41, derived by the spec) and on decisions D24 and D42. -/
def Obligations.AssertedPinMeansNoTripAndNotOff : Prop :=
  ∀ s t : State, s.Good → step s = .next t → t.PinSafe
end

