-- ==== Sys2Proof/Laws/Operands.lean ====
section
/-! SUPPORT. The values of the operand forms, of the byte order and of the integer primitives; reading one channel of an array. -/

namespace Sys2Proof

@[simp] theorem Lanes.get_ofFn {α : Type} (f : Chan → α) (i : Chan) : (Lanes.ofFn f).get i = f i := by
  fin_cases i <;> rfl

@[simp] theorem Lanes.get_replicate {α : Type} (a : α) (i : Chan) : (Lanes.replicate a).get i = a :=
  Lanes.get_ofFn _ i

theorem Lanes.ext_get {α : Type} {l m : Lanes α} (h : ∀ i, l.get i = m.get i) : l = m := by
  obtain ⟨l0, l1, l2, l3, l4, l5, l6, l7⟩ := l
  obtain ⟨m0, m1, m2, m3, m4, m5, m6, m7⟩ := m
  have h0 := h 0; have h1 := h 1; have h2 := h 2; have h3 := h 3
  have h4 := h 4; have h5 := h 5; have h6 := h 6; have h7 := h 7
  simp only [Lanes.get] at h0 h1 h2 h3 h4 h5 h6 h7
  subst h0 h1 h2 h3 h4 h5 h6 h7
  rfl

theorem mem_allChans (i : Chan) : i ∈ allChans := by
  fin_cases i <;> decide

@[simp] theorem toNat_loByte (v : Word) : (loByte v).toNat = v.toNat % 256 := by
  simp [loByte, BitVec.extractLsb'_toNat]

@[simp] theorem toNat_hiByte (v : Word) : (hiByte v).toNat = v.toNat / 256 := by
  have h := v.isLt
  simp only [hiByte, BitVec.extractLsb'_toNat, Nat.shiftRight_eq_div_pow]
  omega

theorem toNat_wordOfBytes (lo hi : Byte) : (wordOfBytes lo hi).toNat = lo.toNat + 256 * hi.toNat := by
  have h := lo.isLt
  rw [wordOfBytes, BitVec.toNat_append, Nat.shiftLeft_eq, ← Nat.shiftLeft_eq, ← Nat.shiftLeft_add_eq_or_of_lt h,
    Nat.shiftLeft_eq]
  omega

@[simp] theorem wordOfBytes_bytes (v : Word) : wordOfBytes (loByte v) (hiByte v) = v := by
  apply BitVec.eq_of_toNat_eq
  rw [toNat_wordOfBytes, toNat_loByte, toNat_hiByte]
  omega

theorem toNat_zext16 {w : Nat} (hw : w ≤ 16) (v : BitVec w) : (zext16 v).toNat = v.toNat := by
  simp only [zext16, BitVec.toNat_setWidth]
  exact Nat.mod_eq_of_lt (lt_of_lt_of_le v.isLt (Nat.pow_le_pow_right (by decide) hw))

theorem clamp_bounds {v lo hi : Int} (h : lo ≤ hi) : lo ≤ clamp v lo hi ∧ clamp v lo hi ≤ hi := by
  unfold clamp
  split
  · exact ⟨le_refl _, h⟩
  · split <;> omega

theorem clamp_of_mem {v lo hi : Int} (h1 : lo ≤ v) (h2 : v ≤ hi) : clamp v lo hi = v := by
  unfold clamp
  split <;> [omega; (split <;> omega)]

/-- `asr` is the floor of the quotient (R9). -/
theorem asr_spec (v : Int) (s : Nat) : asr v s * 2 ^ s ≤ v ∧ v < (asr v s + 1) * 2 ^ s := by
  have h : (0 : Int) < 2 ^ s := by positivity
  exact ⟨Int.ediv_mul_le v h.ne', Int.lt_ediv_add_one_mul_self v h⟩

end Sys2Proof
end

