-- ==== Sys2Proof/Laws/State.lean ====
section
/-! SUPPORT. What each named operation leaves in each field of the state: one lemma per field per operation. -/

namespace Sys2Proof.Machine

variable (s : State)

-- respond

@[simp] theorem respond_cfg (v : Word) : (respond v s).cfg = s.cfg := rfl

@[simp] theorem respond_regs (v : Word) : (respond v s).regs = { s.regs with respLen := 2, resp0 := loByte v, resp1 := hiByte v } := rfl

@[simp] theorem respond_out (v : Word) : (respond v s).out = s.out := rfl

@[simp] theorem respond_inputs (v : Word) : (respond v s).inputs = s.inputs := rfl

@[simp] theorem respond_freeCount (v : Word) : (respond v s).freeCount = s.freeCount := rfl

-- respondEmpty

@[simp] theorem respondEmpty_cfg : (respondEmpty s).cfg = s.cfg := rfl

@[simp] theorem respondEmpty_regs : (respondEmpty s).regs = { s.regs with respLen := 0 } := rfl

@[simp] theorem respondEmpty_out : (respondEmpty s).out = s.out := rfl

@[simp] theorem respondEmpty_inputs : (respondEmpty s).inputs = s.inputs := rfl

@[simp] theorem respondEmpty_freeCount : (respondEmpty s).freeCount = s.freeCount := rfl

-- tripActions

@[simp] theorem tripActions_cfg : (tripActions s).cfg = s.cfg := rfl

@[simp] theorem tripActions_regs : (tripActions s).regs = { s.regs with heaterMode := .off, swOut := false, trip := true } := rfl

@[simp] theorem tripActions_out : (tripActions s).out = { s.out with tripNow := true } := rfl

@[simp] theorem tripActions_inputs : (tripActions s).inputs = s.inputs := rfl

@[simp] theorem tripActions_freeCount : (tripActions s).freeCount = s.freeCount := rfl

-- resetRegisters

@[simp] theorem resetRegisters_cfg : (resetRegisters s).cfg = s.cfg := rfl

@[simp] theorem resetRegisters_regs : (resetRegisters s).regs = Regs.resetFor s.cfg := rfl

@[simp] theorem resetRegisters_out : (resetRegisters s).out = s.out := rfl

@[simp] theorem resetRegisters_inputs : (resetRegisters s).inputs = s.inputs := rfl

@[simp] theorem resetRegisters_freeCount : (resetRegisters s).freeCount = s.freeCount := rfl

-- presentOutputs

@[simp] theorem presentOutputs_cfg (wave : Bool) : (presentOutputs wave s).cfg = s.cfg := rfl

@[simp] theorem presentOutputs_regs (wave : Bool) : (presentOutputs wave s).regs = s.regs := rfl

@[simp] theorem presentOutputs_out (wave : Bool) : (presentOutputs wave s).out = { s.out with
      heaterPin := heaterPinOf wave s, cmpValue := s.regs.cmpReg, cmpRoute := decide (s.regs.heaterMode = .pid) } := rfl

@[simp] theorem presentOutputs_inputs (wave : Bool) : (presentOutputs wave s).inputs = s.inputs := rfl

@[simp] theorem presentOutputs_freeCount (wave : Bool) : (presentOutputs wave s).freeCount = s.freeCount := rfl

-- powerOnReset

@[simp] theorem powerOnReset_cfg (inp : Inputs) : (powerOnReset inp s).cfg = s.cfg := rfl

@[simp] theorem powerOnReset_regs (inp : Inputs) : (powerOnReset inp s).regs = Regs.resetFor s.cfg := rfl

@[simp] theorem powerOnReset_out (inp : Inputs) : (powerOnReset inp s).out = { StepOutputs.idle with rdData := List.replicate (inp.rdCount.getD 0) 0 } := rfl

@[simp] theorem powerOnReset_inputs (inp : Inputs) : (powerOnReset inp s).inputs = s.inputs := rfl

@[simp] theorem powerOnReset_freeCount (inp : Inputs) : (powerOnReset inp s).freeCount = s.freeCount := rfl

-- beginStep

@[simp] theorem beginStep_cfg : (beginStep s).cfg = s.cfg := by
  unfold beginStep; split <;> rfl

@[simp] theorem beginStep_regs : (beginStep s).regs = s.regs := by
  unfold beginStep; split <;> rfl

@[simp] theorem beginStep_out : (beginStep s).out = StepOutputs.idle := by
  unfold beginStep; split <;> rfl

@[simp] theorem beginStep_inputs : (beginStep s).inputs = s.inputs.tail := by
  unfold beginStep; split <;> simp [*]

-- readPhase

@[simp] theorem readPhase_cfg (inp : Inputs) : (readPhase inp s).cfg = s.cfg := by
  unfold readPhase; split <;> rfl

@[simp] theorem readPhase_regs (inp : Inputs) : (readPhase inp s).regs = s.regs := by
  unfold readPhase; split <;> rfl

@[simp] theorem readPhase_inputs (inp : Inputs) : (readPhase inp s).inputs = s.inputs := by
  unfold readPhase; split <;> rfl

@[simp] theorem readPhase_freeCount (inp : Inputs) : (readPhase inp s).freeCount = s.freeCount := by
  unfold readPhase; split <;> rfl

@[simp] theorem readPhase_tripNow (inp : Inputs) : (readPhase inp s).out.tripNow = s.out.tripNow := by
  unfold readPhase; split <;> rfl

@[simp] theorem readPhase_sysRestart (inp : Inputs) : (readPhase inp s).out.sysRestart = s.out.sysRestart := by
  unfold readPhase; split <;> rfl

@[simp] theorem readPhase_adcStart (inp : Inputs) : (readPhase inp s).out.adcStart = s.out.adcStart := by
  unfold readPhase; split <;> rfl

@[simp] theorem readPhase_adcSkip (inp : Inputs) : (readPhase inp s).out.adcSkip = s.out.adcSkip := by
  unfold readPhase; split <;> rfl

theorem readPhase_rdData (inp : Inputs) :
    (readPhase inp s).out.rdData = inp.rdCount.elim s.out.rdData (respBytes s.regs) := by
  unfold readPhase; split <;> simp [*]

@[simp] theorem convertBatch_cfg (b : Batch) : (convertBatch b s).cfg = s.cfg := rfl

@[simp] theorem convertBatch_out (b : Batch) : (convertBatch b s).out = s.out := rfl

@[simp] theorem convertBatch_inputs (b : Batch) : (convertBatch b s).inputs = s.inputs := rfl

@[simp] theorem convertBatch_freeCount (b : Batch) : (convertBatch b s).freeCount = s.freeCount := rfl

@[simp] theorem convertBatch_regs_setPoint (b : Batch) : (convertBatch b s).regs.setPoint = s.regs.setPoint := rfl

@[simp] theorem convertBatch_regs_controlSensor (b : Batch) : (convertBatch b s).regs.controlSensor = s.regs.controlSensor := rfl

@[simp] theorem convertBatch_regs_heaterMode (b : Batch) : (convertBatch b s).regs.heaterMode = s.regs.heaterMode := rfl

@[simp] theorem convertBatch_regs_pwmDuty (b : Batch) : (convertBatch b s).regs.pwmDuty = s.regs.pwmDuty := rfl

@[simp] theorem convertBatch_regs_maxTemp (b : Batch) : (convertBatch b s).regs.maxTemp = s.regs.maxTemp := rfl

@[simp] theorem convertBatch_regs_trip (b : Batch) : (convertBatch b s).regs.trip = s.regs.trip := rfl

@[simp] theorem convertBatch_regs_errorSum (b : Batch) : (convertBatch b s).regs.errorSum = s.regs.errorSum := rfl

@[simp] theorem convertBatch_regs_lastOutput (b : Batch) : (convertBatch b s).regs.lastOutput = s.regs.lastOutput := rfl

@[simp] theorem convertBatch_regs_cmpReg (b : Batch) : (convertBatch b s).regs.cmpReg = s.regs.cmpReg := rfl

@[simp] theorem convertBatch_regs_pwmCounter (b : Batch) : (convertBatch b s).regs.pwmCounter = s.regs.pwmCounter := rfl

@[simp] theorem convertBatch_regs_swOut (b : Batch) : (convertBatch b s).regs.swOut = s.regs.swOut := rfl

@[simp] theorem convertBatch_regs_tickDiv (b : Batch) : (convertBatch b s).regs.tickDiv = s.regs.tickDiv := rfl

@[simp] theorem convertBatch_regs_startReq (b : Batch) : (convertBatch b s).regs.startReq = s.regs.startReq := rfl

@[simp] theorem convertBatch_regs_skipLatched (b : Batch) : (convertBatch b s).regs.skipLatched = s.regs.skipLatched := rfl

@[simp] theorem convertBatch_regs_respLen (b : Batch) : (convertBatch b s).regs.respLen = s.regs.respLen := rfl

@[simp] theorem convertBatch_regs_resp0 (b : Batch) : (convertBatch b s).regs.resp0 = s.regs.resp0 := rfl

@[simp] theorem convertBatch_regs_resp1 (b : Batch) : (convertBatch b s).regs.resp1 = s.regs.resp1 := rfl

@[simp] theorem convertBatch_regs_bgWake (b : Batch) : (convertBatch b s).regs.bgWake = true := rfl

-- conversionEvent

@[simp] theorem conversionEvent_cfg (inp : Inputs) : (conversionEvent inp s).cfg = s.cfg := by
  unfold conversionEvent; split <;> rfl

@[simp] theorem conversionEvent_out (inp : Inputs) : (conversionEvent inp s).out = s.out := by
  unfold conversionEvent; split <;> rfl

@[simp] theorem conversionEvent_inputs (inp : Inputs) : (conversionEvent inp s).inputs = s.inputs := by
  unfold conversionEvent; split <;> rfl

@[simp] theorem conversionEvent_freeCount (inp : Inputs) : (conversionEvent inp s).freeCount = s.freeCount := by
  unfold conversionEvent; split <;> rfl

@[simp] theorem conversionEvent_regs_setPoint (inp : Inputs) : (conversionEvent inp s).regs.setPoint = s.regs.setPoint := by
  unfold conversionEvent; split <;> rfl

@[simp] theorem conversionEvent_regs_controlSensor (inp : Inputs) : (conversionEvent inp s).regs.controlSensor = s.regs.controlSensor := by
  unfold conversionEvent; split <;> rfl

@[simp] theorem conversionEvent_regs_heaterMode (inp : Inputs) : (conversionEvent inp s).regs.heaterMode = s.regs.heaterMode := by
  unfold conversionEvent; split <;> rfl

@[simp] theorem conversionEvent_regs_pwmDuty (inp : Inputs) : (conversionEvent inp s).regs.pwmDuty = s.regs.pwmDuty := by
  unfold conversionEvent; split <;> rfl

@[simp] theorem conversionEvent_regs_maxTemp (inp : Inputs) : (conversionEvent inp s).regs.maxTemp = s.regs.maxTemp := by
  unfold conversionEvent; split <;> rfl

@[simp] theorem conversionEvent_regs_trip (inp : Inputs) : (conversionEvent inp s).regs.trip = s.regs.trip := by
  unfold conversionEvent; split <;> rfl

@[simp] theorem conversionEvent_regs_errorSum (inp : Inputs) : (conversionEvent inp s).regs.errorSum = s.regs.errorSum := by
  unfold conversionEvent; split <;> rfl

@[simp] theorem conversionEvent_regs_lastOutput (inp : Inputs) : (conversionEvent inp s).regs.lastOutput = s.regs.lastOutput := by
  unfold conversionEvent; split <;> rfl

@[simp] theorem conversionEvent_regs_cmpReg (inp : Inputs) : (conversionEvent inp s).regs.cmpReg = s.regs.cmpReg := by
  unfold conversionEvent; split <;> rfl

@[simp] theorem conversionEvent_regs_pwmCounter (inp : Inputs) : (conversionEvent inp s).regs.pwmCounter = s.regs.pwmCounter := by
  unfold conversionEvent; split <;> rfl

@[simp] theorem conversionEvent_regs_swOut (inp : Inputs) : (conversionEvent inp s).regs.swOut = s.regs.swOut := by
  unfold conversionEvent; split <;> rfl

@[simp] theorem conversionEvent_regs_tickDiv (inp : Inputs) : (conversionEvent inp s).regs.tickDiv = s.regs.tickDiv := by
  unfold conversionEvent; split <;> rfl

@[simp] theorem conversionEvent_regs_startReq (inp : Inputs) : (conversionEvent inp s).regs.startReq = s.regs.startReq := by
  unfold conversionEvent; split <;> rfl

@[simp] theorem conversionEvent_regs_skipLatched (inp : Inputs) : (conversionEvent inp s).regs.skipLatched = s.regs.skipLatched := by
  unfold conversionEvent; split <;> rfl

@[simp] theorem conversionEvent_regs_respLen (inp : Inputs) : (conversionEvent inp s).regs.respLen = s.regs.respLen := by
  unfold conversionEvent; split <;> rfl

@[simp] theorem conversionEvent_regs_resp0 (inp : Inputs) : (conversionEvent inp s).regs.resp0 = s.regs.resp0 := by
  unfold conversionEvent; split <;> rfl

@[simp] theorem conversionEvent_regs_resp1 (inp : Inputs) : (conversionEvent inp s).regs.resp1 = s.regs.resp1 := by
  unfold conversionEvent; split <;> rfl

-- pidUpdate

@[simp] theorem pidUpdate_cfg : (pidUpdate s).cfg = s.cfg := by
  simp only [pidUpdate]; split <;> rfl

@[simp] theorem pidUpdate_out : (pidUpdate s).out = s.out := by
  simp only [pidUpdate]; split <;> rfl

@[simp] theorem pidUpdate_inputs : (pidUpdate s).inputs = s.inputs := by
  simp only [pidUpdate]; split <;> rfl

@[simp] theorem pidUpdate_freeCount : (pidUpdate s).freeCount = s.freeCount := by
  simp only [pidUpdate]; split <;> rfl

@[simp] theorem pidUpdate_regs_raw : (pidUpdate s).regs.raw = s.regs.raw := by
  simp only [pidUpdate]; split <;> rfl

@[simp] theorem pidUpdate_regs_acc : (pidUpdate s).regs.acc = s.regs.acc := by
  simp only [pidUpdate]; split <;> rfl

@[simp] theorem pidUpdate_regs_filt : (pidUpdate s).regs.filt = s.regs.filt := by
  simp only [pidUpdate]; split <;> rfl

@[simp] theorem pidUpdate_regs_setPoint : (pidUpdate s).regs.setPoint = s.regs.setPoint := by
  simp only [pidUpdate]; split <;> rfl

@[simp] theorem pidUpdate_regs_controlSensor : (pidUpdate s).regs.controlSensor = s.regs.controlSensor := by
  simp only [pidUpdate]; split <;> rfl

@[simp] theorem pidUpdate_regs_heaterMode : (pidUpdate s).regs.heaterMode = s.regs.heaterMode := by
  simp only [pidUpdate]; split <;> rfl

@[simp] theorem pidUpdate_regs_pwmDuty : (pidUpdate s).regs.pwmDuty = s.regs.pwmDuty := by
  simp only [pidUpdate]; split <;> rfl

@[simp] theorem pidUpdate_regs_maxTemp : (pidUpdate s).regs.maxTemp = s.regs.maxTemp := by
  simp only [pidUpdate]; split <;> rfl

@[simp] theorem pidUpdate_regs_trip : (pidUpdate s).regs.trip = s.regs.trip := by
  simp only [pidUpdate]; split <;> rfl

@[simp] theorem pidUpdate_regs_pwmCounter : (pidUpdate s).regs.pwmCounter = s.regs.pwmCounter := by
  simp only [pidUpdate]; split <;> rfl

@[simp] theorem pidUpdate_regs_swOut : (pidUpdate s).regs.swOut = s.regs.swOut := by
  simp only [pidUpdate]; split <;> rfl

@[simp] theorem pidUpdate_regs_tickDiv : (pidUpdate s).regs.tickDiv = s.regs.tickDiv := by
  simp only [pidUpdate]; split <;> rfl

@[simp] theorem pidUpdate_regs_bgWake : (pidUpdate s).regs.bgWake = s.regs.bgWake := by
  simp only [pidUpdate]; split <;> rfl

@[simp] theorem pidUpdate_regs_startReq : (pidUpdate s).regs.startReq = s.regs.startReq := by
  simp only [pidUpdate]; split <;> rfl

@[simp] theorem pidUpdate_regs_skipLatched : (pidUpdate s).regs.skipLatched = s.regs.skipLatched := by
  simp only [pidUpdate]; split <;> rfl

@[simp] theorem pidUpdate_regs_respLen : (pidUpdate s).regs.respLen = s.regs.respLen := by
  simp only [pidUpdate]; split <;> rfl

@[simp] theorem pidUpdate_regs_resp0 : (pidUpdate s).regs.resp0 = s.regs.resp0 := by
  simp only [pidUpdate]; split <;> rfl

@[simp] theorem pidUpdate_regs_resp1 : (pidUpdate s).regs.resp1 = s.regs.resp1 := by
  simp only [pidUpdate]; split <;> rfl

-- backgroundPass

@[simp] theorem backgroundPass_cfg : (backgroundPass s).cfg = s.cfg := by
  unfold backgroundPass; split <;> [split <;> rfl; rfl]

@[simp] theorem backgroundPass_out : (backgroundPass s).out = s.out := by
  unfold backgroundPass; split <;> [split <;> rfl; rfl]

@[simp] theorem backgroundPass_inputs : (backgroundPass s).inputs = s.inputs := by
  unfold backgroundPass; split <;> [split <;> rfl; rfl]

@[simp] theorem backgroundPass_freeCount : (backgroundPass s).freeCount = s.freeCount := by
  unfold backgroundPass; split <;> [split <;> rfl; rfl]

@[simp] theorem backgroundPass_regs_raw : (backgroundPass s).regs.raw = s.regs.raw := by
  unfold backgroundPass; split <;> [split <;> rfl; rfl]

@[simp] theorem backgroundPass_regs_acc : (backgroundPass s).regs.acc = s.regs.acc := by
  unfold backgroundPass; split <;> [split <;> rfl; rfl]

@[simp] theorem backgroundPass_regs_filt : (backgroundPass s).regs.filt = s.regs.filt := by
  unfold backgroundPass; split <;> [split <;> rfl; rfl]

@[simp] theorem backgroundPass_regs_setPoint : (backgroundPass s).regs.setPoint = s.regs.setPoint := by
  unfold backgroundPass; split <;> [split <;> rfl; rfl]

@[simp] theorem backgroundPass_regs_controlSensor : (backgroundPass s).regs.controlSensor = s.regs.controlSensor := by
  unfold backgroundPass; split <;> [split <;> rfl; rfl]

@[simp] theorem backgroundPass_regs_heaterMode : (backgroundPass s).regs.heaterMode = s.regs.heaterMode := by
  unfold backgroundPass; split <;> [split <;> rfl; rfl]

@[simp] theorem backgroundPass_regs_pwmDuty : (backgroundPass s).regs.pwmDuty = s.regs.pwmDuty := by
  unfold backgroundPass; split <;> [split <;> rfl; rfl]

@[simp] theorem backgroundPass_regs_maxTemp : (backgroundPass s).regs.maxTemp = s.regs.maxTemp := by
  unfold backgroundPass; split <;> [split <;> rfl; rfl]

@[simp] theorem backgroundPass_regs_trip : (backgroundPass s).regs.trip = s.regs.trip := by
  unfold backgroundPass; split <;> [split <;> rfl; rfl]

@[simp] theorem backgroundPass_regs_errorSum : (backgroundPass s).regs.errorSum = s.regs.errorSum := by
  unfold backgroundPass; split <;> [split <;> rfl; rfl]

@[simp] theorem backgroundPass_regs_lastOutput : (backgroundPass s).regs.lastOutput = s.regs.lastOutput := by
  unfold backgroundPass; split <;> [split <;> rfl; rfl]

@[simp] theorem backgroundPass_regs_cmpReg : (backgroundPass s).regs.cmpReg = s.regs.cmpReg := by
  unfold backgroundPass; split <;> [split <;> rfl; rfl]

@[simp] theorem backgroundPass_regs_tickDiv : (backgroundPass s).regs.tickDiv = s.regs.tickDiv := by
  unfold backgroundPass; split <;> [split <;> rfl; rfl]

@[simp] theorem backgroundPass_regs_skipLatched : (backgroundPass s).regs.skipLatched = s.regs.skipLatched := by
  unfold backgroundPass; split <;> [split <;> rfl; rfl]

@[simp] theorem backgroundPass_regs_respLen : (backgroundPass s).regs.respLen = s.regs.respLen := by
  unfold backgroundPass; split <;> [split <;> rfl; rfl]

@[simp] theorem backgroundPass_regs_resp0 : (backgroundPass s).regs.resp0 = s.regs.resp0 := by
  unfold backgroundPass; split <;> [split <;> rfl; rfl]

@[simp] theorem backgroundPass_regs_resp1 : (backgroundPass s).regs.resp1 = s.regs.resp1 := by
  unfold backgroundPass; split <;> [split <;> rfl; rfl]

-- conversionRequest

@[simp] theorem conversionRequest_cfg : (conversionRequest s).cfg = s.cfg := by
  unfold conversionRequest; split <;> rfl

@[simp] theorem conversionRequest_inputs : (conversionRequest s).inputs = s.inputs := by
  unfold conversionRequest; split <;> rfl

@[simp] theorem conversionRequest_freeCount : (conversionRequest s).freeCount = s.freeCount := by
  unfold conversionRequest; split <;> rfl

@[simp] theorem conversionRequest_regs_raw : (conversionRequest s).regs.raw = s.regs.raw := by
  unfold conversionRequest; split <;> rfl

@[simp] theorem conversionRequest_regs_acc : (conversionRequest s).regs.acc = s.regs.acc := by
  unfold conversionRequest; split <;> rfl

@[simp] theorem conversionRequest_regs_filt : (conversionRequest s).regs.filt = s.regs.filt := by
  unfold conversionRequest; split <;> rfl

@[simp] theorem conversionRequest_regs_setPoint : (conversionRequest s).regs.setPoint = s.regs.setPoint := by
  unfold conversionRequest; split <;> rfl

@[simp] theorem conversionRequest_regs_controlSensor : (conversionRequest s).regs.controlSensor = s.regs.controlSensor := by
  unfold conversionRequest; split <;> rfl

@[simp] theorem conversionRequest_regs_heaterMode : (conversionRequest s).regs.heaterMode = s.regs.heaterMode := by
  unfold conversionRequest; split <;> rfl

@[simp] theorem conversionRequest_regs_pwmDuty : (conversionRequest s).regs.pwmDuty = s.regs.pwmDuty := by
  unfold conversionRequest; split <;> rfl

@[simp] theorem conversionRequest_regs_maxTemp : (conversionRequest s).regs.maxTemp = s.regs.maxTemp := by
  unfold conversionRequest; split <;> rfl

@[simp] theorem conversionRequest_regs_trip : (conversionRequest s).regs.trip = s.regs.trip := by
  unfold conversionRequest; split <;> rfl

@[simp] theorem conversionRequest_regs_errorSum : (conversionRequest s).regs.errorSum = s.regs.errorSum := by
  unfold conversionRequest; split <;> rfl

@[simp] theorem conversionRequest_regs_lastOutput : (conversionRequest s).regs.lastOutput = s.regs.lastOutput := by
  unfold conversionRequest; split <;> rfl

@[simp] theorem conversionRequest_regs_cmpReg : (conversionRequest s).regs.cmpReg = s.regs.cmpReg := by
  unfold conversionRequest; split <;> rfl

@[simp] theorem conversionRequest_regs_pwmCounter : (conversionRequest s).regs.pwmCounter = s.regs.pwmCounter := by
  unfold conversionRequest; split <;> rfl

@[simp] theorem conversionRequest_regs_swOut : (conversionRequest s).regs.swOut = s.regs.swOut := by
  unfold conversionRequest; split <;> rfl

@[simp] theorem conversionRequest_regs_tickDiv : (conversionRequest s).regs.tickDiv = s.regs.tickDiv := by
  unfold conversionRequest; split <;> rfl

@[simp] theorem conversionRequest_regs_bgWake : (conversionRequest s).regs.bgWake = s.regs.bgWake := by
  unfold conversionRequest; split <;> rfl

@[simp] theorem conversionRequest_regs_respLen : (conversionRequest s).regs.respLen = s.regs.respLen := by
  unfold conversionRequest; split <;> rfl

@[simp] theorem conversionRequest_regs_resp0 : (conversionRequest s).regs.resp0 = s.regs.resp0 := by
  unfold conversionRequest; split <;> rfl

@[simp] theorem conversionRequest_regs_resp1 : (conversionRequest s).regs.resp1 = s.regs.resp1 := by
  unfold conversionRequest; split <;> rfl

@[simp] theorem conversionRequest_tripNow : (conversionRequest s).out.tripNow = s.out.tripNow := by
  unfold conversionRequest; split <;> rfl

@[simp] theorem conversionRequest_sysRestart : (conversionRequest s).out.sysRestart = s.out.sysRestart := by
  unfold conversionRequest; split <;> rfl

@[simp] theorem conversionRequest_rdData : (conversionRequest s).out.rdData = s.out.rdData := by
  unfold conversionRequest; split <;> rfl

-- backgroundSlot

@[simp] theorem backgroundSlot_cfg : (backgroundSlot s).cfg = s.cfg := by
  unfold backgroundSlot; split <;> simp

@[simp] theorem backgroundSlot_inputs : (backgroundSlot s).inputs = s.inputs := by
  unfold backgroundSlot; split <;> simp

@[simp] theorem backgroundSlot_freeCount : (backgroundSlot s).freeCount = s.freeCount := by
  unfold backgroundSlot; split <;> simp

@[simp] theorem backgroundSlot_regs_raw : (backgroundSlot s).regs.raw = s.regs.raw := by
  unfold backgroundSlot; split <;> simp

@[simp] theorem backgroundSlot_regs_acc : (backgroundSlot s).regs.acc = s.regs.acc := by
  unfold backgroundSlot; split <;> simp

@[simp] theorem backgroundSlot_regs_filt : (backgroundSlot s).regs.filt = s.regs.filt := by
  unfold backgroundSlot; split <;> simp

@[simp] theorem backgroundSlot_regs_setPoint : (backgroundSlot s).regs.setPoint = s.regs.setPoint := by
  unfold backgroundSlot; split <;> simp

@[simp] theorem backgroundSlot_regs_controlSensor : (backgroundSlot s).regs.controlSensor = s.regs.controlSensor := by
  unfold backgroundSlot; split <;> simp

@[simp] theorem backgroundSlot_regs_heaterMode : (backgroundSlot s).regs.heaterMode = s.regs.heaterMode := by
  unfold backgroundSlot; split <;> simp

@[simp] theorem backgroundSlot_regs_pwmDuty : (backgroundSlot s).regs.pwmDuty = s.regs.pwmDuty := by
  unfold backgroundSlot; split <;> simp

@[simp] theorem backgroundSlot_regs_maxTemp : (backgroundSlot s).regs.maxTemp = s.regs.maxTemp := by
  unfold backgroundSlot; split <;> simp

@[simp] theorem backgroundSlot_regs_trip : (backgroundSlot s).regs.trip = s.regs.trip := by
  unfold backgroundSlot; split <;> simp

@[simp] theorem backgroundSlot_regs_errorSum : (backgroundSlot s).regs.errorSum = s.regs.errorSum := by
  unfold backgroundSlot; split <;> simp

@[simp] theorem backgroundSlot_regs_lastOutput : (backgroundSlot s).regs.lastOutput = s.regs.lastOutput := by
  unfold backgroundSlot; split <;> simp

@[simp] theorem backgroundSlot_regs_cmpReg : (backgroundSlot s).regs.cmpReg = s.regs.cmpReg := by
  unfold backgroundSlot; split <;> simp

@[simp] theorem backgroundSlot_regs_tickDiv : (backgroundSlot s).regs.tickDiv = s.regs.tickDiv := by
  unfold backgroundSlot; split <;> simp

@[simp] theorem backgroundSlot_regs_respLen : (backgroundSlot s).regs.respLen = s.regs.respLen := by
  unfold backgroundSlot; split <;> simp

@[simp] theorem backgroundSlot_regs_resp0 : (backgroundSlot s).regs.resp0 = s.regs.resp0 := by
  unfold backgroundSlot; split <;> simp

@[simp] theorem backgroundSlot_regs_resp1 : (backgroundSlot s).regs.resp1 = s.regs.resp1 := by
  unfold backgroundSlot; split <;> simp

@[simp] theorem backgroundSlot_tripNow : (backgroundSlot s).out.tripNow = s.out.tripNow := by
  unfold backgroundSlot; split <;> simp

@[simp] theorem backgroundSlot_sysRestart : (backgroundSlot s).out.sysRestart = s.out.sysRestart := by
  unfold backgroundSlot; split <;> simp

@[simp] theorem backgroundSlot_rdData : (backgroundSlot s).out.rdData = s.out.rdData := by
  unfold backgroundSlot; split <;> simp

end Sys2Proof.Machine
end

