-- ==== Sys2Proof/Laws/Events.lean ====
section
/-! SUPPORT. What each event of a step can do, said once: one inversion lemma per event and per shared operation, down to the step. -/

namespace Sys2Proof.Machine

/-! ## The configuration -/

/-- The ranges that a legal configuration's parameters lie in (R7). -/
theorem legal_iff (c : Params) : c.legal = true ↔
    (∀ i, 1 ≤ c.emaK.get i ∧ c.emaK.get i ≤ 16) ∧ (∀ i, c.clampThr.get i ≤ 4095) ∧ c.pGain ≤ 255 ∧ c.iShift ≤ 17 ∧
    c.minAdc ≤ c.maxAdc ∧ c.maxAdc ≤ 4095 ∧ 1 ≤ c.tickDivM ∧ c.tickDivM ≤ 65535 ∧ c.defaultSetPoint ≤ 65535 ∧
    c.defaultControlSensor ≤ 7 ∧ c.defaultPwmDuty ≤ 255 ∧ 1 ≤ c.defaultMaxTemp ∧ c.defaultMaxTemp ≤ 65535 ∧
    c.fwVersion ≤ 65535 ∧ 2 ≤ c.maxPayload := by
  simp [Params.legal, Params.checks, Params.emaKOk, Params.clampThrOk, mem_allChans]

/-! ## Conversion -/

/-- An accumulator in the range of R76 fits its register. -/
theorem acc_range_lt {k n : Nat} (h : n ≤ 4095 * (2 ^ k - 1)) : n < 2 ^ (12 + k) := by
  have := Nat.two_pow_pos k
  rw [Nat.pow_add]
  omega

/-- Storing truncates to the register's width (R17). -/
theorem toNat_accStore {c : Params} {i : Chan} (h : c.emaK.get i ≤ 16) (n : Nat) :
    (accStore c i n).toNat = n % 2 ^ accWidth c i := by
  have hlt := Nat.mod_lt n (Nat.two_pow_pos (accWidth c i))
  have hle : 2 ^ accWidth c i ≤ 2 ^ 28 := Nat.pow_le_pow_right (by decide) (by unfold accWidth; omega)
  rw [accStore, BitVec.toNat_ofNat, Nat.mod_eq_of_lt (by omega)]

/-- A register whose upper storage bits are 0 holds its storage's value. -/
theorem accValue_of_lt {c : Params} {r : Regs} {i : Chan} (h : (r.acc.get i).toNat < 2 ^ accWidth c i) :
    accValue c r i = (r.acc.get i).toNat := Nat.mod_eq_of_lt h

theorem convertBatch_raw_get (b : Batch) (s : State) (i : Chan) : (convertBatch b s).regs.raw.get i =
    if laneSelected b s.regs i then b.data.get i else s.regs.raw.get i := Lanes.get_ofFn _ i

theorem convertBatch_acc_get (b : Batch) (s : State) (i : Chan) : (convertBatch b s).regs.acc.get i =
    if laneSelected b s.regs i then accStore s.cfg i (laneStep s.cfg b s.regs i).1 else s.regs.acc.get i :=
  Lanes.get_ofFn _ i

theorem convertBatch_filt_get (b : Batch) (s : State) (i : Chan) : (convertBatch b s).regs.filt.get i =
    if laneSelected b s.regs i then BitVec.ofNat 12 (laneStep s.cfg b s.regs i).2 else s.regs.filt.get i :=
  Lanes.get_ofFn _ i

theorem conversionEvent_cases (inp : Inputs) (s : State) :
    (∃ b, inp.conv = some b ∧ conversionEvent inp s = convertBatch b s) ∨
    (inp.conv = none ∧ conversionEvent inp s = s) := by
  unfold conversionEvent
  split
  · exact .inl ⟨_, ‹_›, rfl⟩
  · exact .inr ⟨‹_›, rfl⟩

theorem filterInput_le (c : Params) (i : Chan) (r : Code) : filterInput c i r ≤ 4095 := by
  have h := r.isLt
  unfold filterInput
  split <;> omega

/-! ## Timer tick -/

theorem pidUpdate_cases (s : State) :
    (readingInRange s.cfg (controlReading s.regs) = false ∧
      pidUpdate s = { s with regs := { s.regs with lastOutput := 0, cmpReg := 0 } }) ∨
    (readingInRange s.cfg (controlReading s.regs) = true ∧ ∃ e sum o,
      e = pidError s.regs (controlReading s.regs) ∧
      sum = pidIntegral s.cfg s.regs.errorSum.toInt e ∧ o = pidOutput s.cfg sum e ∧
      pidUpdate s = { s with regs := { s.regs with
        errorSum := BitVec.ofInt 11 sum, lastOutput := BitVec.ofInt 16 o, cmpReg := BitVec.ofInt 16 o } }) := by
  cases h : readingInRange s.cfg (controlReading s.regs)
  · exact .inl ⟨rfl, by simp [pidUpdate, h]⟩
  · exact .inr ⟨rfl, _, _, _, rfl, rfl, rfl, by simp [pidUpdate, h]⟩

theorem pidIntegral_bounds (c : Params) (errorSum e : Int) :
    0 ≤ pidIntegral c errorSum e ∧ pidIntegral c errorSum e ≤ 1000 := clamp_bounds (by decide)

theorem pidOutput_bounds (c : Params) (errorSum e : Int) :
    0 ≤ pidOutput c errorSum e ∧ pidOutput c errorSum e ≤ 1000 := clamp_bounds (by decide)

theorem overTemp_iff (c : Params) (r : Regs) : overTemp c r = true ↔
    r.maxTemp.toNat ≠ 0 ∧ ∃ i, maskBit c.tempMask i = true ∧ r.maxTemp.toNat < (r.raw.get i).toNat := by
  simp only [overTemp, Bool.and_eq_true, bne_iff_ne, ne_eq, List.any_eq_true, decide_eq_true_eq,
    toNat_zext16 (w := 12) (by decide)]
  constructor
  · rintro ⟨h, i, -, h1, h2⟩
    exact ⟨fun h0 => h (BitVec.eq_of_toNat_eq h0), i, h1, h2⟩
  · rintro ⟨h, i, h1, h2⟩
    exact ⟨fun h0 => h (by rw [h0]; rfl), i, mem_allChans i, h1, h2⟩

theorem controlTick_cases (s : State) :
    (overTemp s.cfg s.regs = true ∧ controlTick s = tripActions s) ∨
    (overTemp s.cfg s.regs = false ∧ s.regs.heaterMode = .pid ∧ controlTick s = pidUpdate s) ∨
    (overTemp s.cfg s.regs = false ∧ s.regs.heaterMode ≠ .pid ∧ controlTick s = s) := by
  unfold controlTick
  split
  · exact .inl ⟨‹_›, rfl⟩
  · rename_i h
    split
    · exact .inr (.inl ⟨by simpa using h, ‹_›, rfl⟩)
    · exact .inr (.inr ⟨by simpa using h, ‹_›, rfl⟩)

theorem timerTick_cases (s : State) :
    (s.regs.tickDiv.toNat + 1 = s.cfg.tickDivM ∧
      timerTick s = controlTick { s with regs := { s.regs with tickDiv := 0 } }) ∨
    (s.regs.tickDiv.toNat + 1 ≠ s.cfg.tickDivM ∧
      timerTick s = { s with regs := { s.regs with tickDiv := BitVec.ofNat 16 (s.regs.tickDiv.toNat + 1) } }) := by
  simp only [timerTick]
  split
  · exact .inl ⟨‹_›, rfl⟩
  · exact .inr ⟨‹_›, rfl⟩

theorem timerEvent_cases (inp : Inputs) (s : State) :
    (inp.tick = true ∧ timerEvent inp s = timerTick s) ∨ (inp.tick = false ∧ timerEvent inp s = s) := by
  unfold timerEvent
  cases inp.tick <;> simp

/-! ## Background slot -/

theorem backgroundPass_cases (s : State) :
    (s.regs.bgWake = false ∧ backgroundPass s = s) ∨
    (s.regs.bgWake = true ∧ s.regs.heaterMode = .pwm ∧ backgroundPass s = { s with regs := { s.regs with
      bgWake := false, pwmCounter := s.regs.pwmCounter + 1,
      swOut := decide ((s.regs.pwmCounter + 1).toNat < s.regs.pwmDuty.toNat), startReq := true } }) ∨
    (s.regs.bgWake = true ∧ s.regs.heaterMode = .off ∧ backgroundPass s =
      { s with regs := { s.regs with bgWake := false, swOut := false, startReq := true } }) ∨
    (s.regs.bgWake = true ∧ s.regs.heaterMode = .pid ∧ backgroundPass s =
      { s with regs := { s.regs with bgWake := false, startReq := true } }) := by
  cases h : s.regs.bgWake <;> cases hm : s.regs.heaterMode <;> simp [backgroundPass, h, hm]

theorem conversionRequest_cases (s : State) :
    (s.regs.startReq = false ∧ conversionRequest s = s) ∨
    (s.regs.startReq = true ∧ conversionRequest s = { s with
      regs := { s.regs with skipLatched := skipMask s.cfg s.regs, startReq := false }
      out := { s.out with adcStart := true, adcSkip := skipMask s.cfg s.regs } }) := by
  unfold conversionRequest
  cases s.regs.startReq <;> simp

theorem backgroundSlot_cases (s : State) :
    (s.out.sysRestart = true ∧ backgroundSlot s = s) ∨
    (s.out.sysRestart = false ∧ backgroundSlot s = conversionRequest (backgroundPass s)) := by
  unfold backgroundSlot
  cases s.out.sysRestart <;> simp

/-! ## What the timer tick keeps -/

/-- The comparator reads `max_temp` and `raw` alone (R83). -/
theorem overTemp_congr {c : Params} {r q : Regs} (hm : r.maxTemp = q.maxTemp) (hr : r.raw = q.raw) :
    overTemp c r = overTemp c q := by
  simp [overTemp, hm, hr]

theorem timerEvent_keeps (inp : Inputs) (s : State) :
    (timerEvent inp s).cfg = s.cfg ∧
    (timerEvent inp s).inputs = s.inputs ∧
    (timerEvent inp s).freeCount = s.freeCount ∧
    (timerEvent inp s).out.sysRestart = s.out.sysRestart ∧
    (timerEvent inp s).out.rdData = s.out.rdData ∧
    (timerEvent inp s).out.adcStart = s.out.adcStart ∧
    (timerEvent inp s).out.adcSkip = s.out.adcSkip ∧
    (timerEvent inp s).regs.raw = s.regs.raw ∧
    (timerEvent inp s).regs.acc = s.regs.acc ∧
    (timerEvent inp s).regs.filt = s.regs.filt ∧
    (timerEvent inp s).regs.setPoint = s.regs.setPoint ∧
    (timerEvent inp s).regs.controlSensor = s.regs.controlSensor ∧
    (timerEvent inp s).regs.pwmDuty = s.regs.pwmDuty ∧
    (timerEvent inp s).regs.maxTemp = s.regs.maxTemp ∧
    (timerEvent inp s).regs.pwmCounter = s.regs.pwmCounter ∧
    (timerEvent inp s).regs.bgWake = s.regs.bgWake ∧
    (timerEvent inp s).regs.startReq = s.regs.startReq ∧
    (timerEvent inp s).regs.skipLatched = s.regs.skipLatched ∧
    (timerEvent inp s).regs.respLen = s.regs.respLen ∧
    (timerEvent inp s).regs.resp0 = s.regs.resp0 ∧
    (timerEvent inp s).regs.resp1 = s.regs.resp1 := by
  rcases timerEvent_cases inp s with ⟨_, e⟩ | ⟨_, e⟩ <;> rw [e]
  · rcases timerTick_cases s with ⟨_, e⟩ | ⟨_, e⟩ <;> rw [e]
    · rcases controlTick_cases { s with regs := { s.regs with tickDiv := 0 } } with ⟨_, e⟩ | ⟨_, _, e⟩ | ⟨_, _, e⟩ <;>
        rw [e] <;> simp
    · simp
  · simp

@[simp] theorem beforeRequest_cfg (inp : Inputs) (s : State) : (beforeRequest inp s).cfg = s.cfg := by
  simp [beforeRequest, timerEvent_keeps]

@[simp] theorem beforeRequest_inputs (inp : Inputs) (s : State) : (beforeRequest inp s).inputs = s.inputs := by
  simp [beforeRequest, timerEvent_keeps]

/-! ## The bytes of a read phase -/

@[simp] theorem length_respBytes (r : Regs) (n : Nat) : (respBytes r n).length = n := by
  simp [respBytes]

theorem respBytes_of_empty {r : Regs} (h : r.respLen = 0) (n : Nat) : respBytes r n = List.replicate n 0 := by
  rw [List.eq_replicate_iff]
  simp [respBytes, respByte, h]

/-! ## Requests and the step -/

/-- A sample without a request requests no command. -/
theorem not_requests_of_none {inp : Inputs} (h : inp.req = none) (i : Instr) : ¬ requests inp i :=
  fun ⟨_, h', _⟩ => by simp [h] at h'

/-- A sample requests only the command its bytes decode to. -/
theorem requests_unique {inp : Inputs} {i j : Instr} (h : requests inp i) (h' : requests inp j) : i = j := by
  obtain ⟨b, hb, hd⟩ := h
  obtain ⟨c, hc, he⟩ := h'
  obtain rfl : b = c := by simpa [hb] using hc
  simpa [hd] using he

theorem requestEvent_cases {inp : Inputs} {s t : State} (h : requestEvent inp s = .next t) :
    (inp.req = none ∧ t = s) ∨ (∃ i, requests inp i ∧ exec i s = .next t) := by
  unfold requestEvent at h
  split at h
  · exact .inl ⟨‹_›, by simpa using h.symm⟩
  · rename_i bytes hb
    split at h
    · exact .inr ⟨_, ⟨bytes, hb, ‹_›⟩, h⟩
    · cases h

theorem step_cases {s t : State} (h : step s = .next t) :
    s.cfg.legal = true ∧ (sampleInputs s).inRange s.cfg = true ∧
    ((sampleInputs s).rst = true ∧ t = powerOnReset (sampleInputs s) (beginStep s) ∨
     (sampleInputs s).rst = false ∧ ∃ u,
       requestEvent (sampleInputs s) (beforeRequest (sampleInputs s) (beginStep s)) = .next u ∧
       t = afterRequest (sampleInputs s) u) := by
  unfold step at h
  split at h
  · rename_i hl
    split at h
    · rename_i hr
      refine ⟨hl, hr, ?_⟩
      unfold performEvents at h
      split at h
      · exact .inl ⟨‹_›, by simpa using h.symm⟩
      · rename_i hrst
        refine .inr ⟨by simpa using hrst, ?_⟩
        split at h
        · exact ⟨_, ‹_›, by simpa using h.symm⟩
        · cases h
        · cases h
    · cases h
  · cases h

end Sys2Proof.Machine
end

