-- ==== Sys2Proof/Laws/Exec.lean ====
section
/-! SUPPORT. What a command can do, said once. -/

namespace Sys2Proof.Machine

/-- What a command leaves (44_cmd_read.md, 45_cmd_write.md): a response, or an empty response with at most the one write of a full-length
accepted write command, or the reset registers. -/
theorem exec_cases {i : Instr} {s t : State} (h : exec i s = .next t) :
    (isRead i = true ∧ ∃ v, t = respond v s) ∨
    (isRead i = false ∧ i ≠ .srst ∧ t = respondEmpty s) ∨
    (∃ m mode, i = .wrMode (some m) ∧ modeOfByte m = some mode ∧
      t = { s with regs := { s.regs with respLen := 0, heaterMode := mode, trip := false, swOut := false } }) ∨
    (∃ v, i = .wrSp (some v) ∧ t = { s with regs := { s.regs with respLen := 0, setPoint := v } }) ∨
    (∃ n, i = .wrSens (some n) ∧ n.toNat < 8 ∧
      t = { s with regs := { s.regs with respLen := 0, controlSensor := n.setWidth 3 } }) ∨
    (∃ d, i = .wrPwm (some d) ∧ t = { s with regs := { s.regs with respLen := 0, pwmDuty := d } }) ∨
    (∃ v, i = .wrMax (some v) ∧ t = { s with regs := { s.regs with respLen := 0, maxTemp := v } }) ∨
    (i = .srst ∧ t = { s with regs := Regs.resetFor s.cfg, out := { s.out with sysRestart := true } }) := by
  cases i with
  | wrMode m =>
    cases m with
    | none => exact .inr (.inl ⟨rfl, by simp, by simpa [exec, execWrMode] using h.symm⟩)
    | some m =>
      cases hm : modeOfByte m with
      | none => exact .inr (.inl ⟨rfl, by simp, by simpa [exec, execWrMode, hm] using h.symm⟩)
      | some mode => exact .inr (.inr (.inl ⟨m, mode, rfl, hm, by simpa [exec, execWrMode, hm] using h.symm⟩))
  | wrSp v =>
    cases v with
    | none => exact .inr (.inl ⟨rfl, by simp, by simpa [exec, execWrSp] using h.symm⟩)
    | some v => exact .inr (.inr (.inr (.inl ⟨v, rfl, by simpa [exec, execWrSp] using h.symm⟩)))
  | wrSens n =>
    cases n with
    | none => exact .inr (.inl ⟨rfl, by simp, by simpa [exec, execWrSens] using h.symm⟩)
    | some n =>
      by_cases hn : n.toNat < 8
      · exact .inr (.inr (.inr (.inr (.inl ⟨n, rfl, hn, by simpa [exec, execWrSens, hn] using h.symm⟩))))
      · exact .inr (.inl ⟨rfl, by simp, by simpa [exec, execWrSens, hn] using h.symm⟩)
  | wrPwm d =>
    cases d with
    | none => exact .inr (.inl ⟨rfl, by simp, by simpa [exec, execWrPwm] using h.symm⟩)
    | some d => exact .inr (.inr (.inr (.inr (.inr (.inl ⟨d, rfl, by simpa [exec, execWrPwm] using h.symm⟩)))))
  | wrMax v =>
    cases v with
    | none => exact .inr (.inl ⟨rfl, by simp, by simpa [exec, execWrMax] using h.symm⟩)
    | some v =>
      exact .inr (.inr (.inr (.inr (.inr (.inr (.inl ⟨v, rfl, by simpa [exec, execWrMax] using h.symm⟩))))))
  | srst => exact .inr (.inr (.inr (.inr (.inr (.inr (.inr ⟨rfl, by simpa [exec, execSrst] using h.symm⟩))))))
  | unknown op => exact .inr (.inl ⟨rfl, by simp, by simpa [exec, execUnknown] using h.symm⟩)
  | _ => exact .inl ⟨rfl, _, (Host.Outcome.next.inj h).symm⟩

/-- What every command keeps: the parameters, the samples to come, and the signals of the step's earlier events. -/
theorem exec_keeps {i : Instr} {s t : State} (h : exec i s = .next t) :
    t.cfg = s.cfg ∧ t.inputs = s.inputs ∧ t.freeCount = s.freeCount ∧ t.out.tripNow = s.out.tripNow ∧
    t.out.rdData = s.out.rdData ∧ t.out.adcStart = s.out.adcStart ∧ t.out.adcSkip = s.out.adcSkip := by
  rcases exec_cases h with ⟨_, v, rfl⟩ | ⟨_, _, rfl⟩ | ⟨m, mode, _, _, rfl⟩ | ⟨v, _, rfl⟩ | ⟨n, _, _, rfl⟩ |
    ⟨d, _, rfl⟩ | ⟨v, _, rfl⟩ | ⟨_, rfl⟩ <;> simp

end Sys2Proof.Machine
end

