-- ==== Sys2Proof/Laws/PerInstr.lean ====
section
/-! SUPPORT. Facts about every instruction as syntax, one lemma per constructor. -/

namespace Sys2Proof.Laws.EncodingShape

/-- The request that carries an instruction begins with its opcode and is at most three bytes long, the FMT2 format (R62); the
opcode is an unknown one exactly for the constructor of the unknown opcodes (R68). -/
def Statement (i : Instr) : Prop :=
  i.wellFormed = true →
    (encode i).head? = some (opcodeOf i) ∧ (encode i).length ≤ 3 ∧
    (unknownOpcode (opcodeOf i) = true ↔ ∃ op, i = .unknown op)

theorem rdRaw0 : Statement .rdRaw0 := fun _ => by decide

theorem rdRaw1 : Statement .rdRaw1 := fun _ => by decide

theorem rdRaw2 : Statement .rdRaw2 := fun _ => by decide

theorem rdRaw3 : Statement .rdRaw3 := fun _ => by decide

theorem rdRaw4 : Statement .rdRaw4 := fun _ => by decide

theorem rdRaw5 : Statement .rdRaw5 := fun _ => by decide

theorem rdRaw6 : Statement .rdRaw6 := fun _ => by decide

theorem rdRaw7 : Statement .rdRaw7 := fun _ => by decide

theorem rdVer : Statement .rdVer := fun _ => by decide

theorem rdStat : Statement .rdStat := fun _ => by decide

theorem rdMode : Statement .rdMode := fun _ => by decide

theorem rdSp : Statement .rdSp := fun _ => by decide

theorem rdSens : Statement .rdSens := fun _ => by decide

theorem rdPwm : Statement .rdPwm := fun _ => by decide

theorem rdMax : Statement .rdMax := fun _ => by decide

theorem rdFilt0 : Statement .rdFilt0 := fun _ => by decide

theorem rdFilt1 : Statement .rdFilt1 := fun _ => by decide

theorem rdFilt2 : Statement .rdFilt2 := fun _ => by decide

theorem rdFilt3 : Statement .rdFilt3 := fun _ => by decide

theorem rdFilt4 : Statement .rdFilt4 := fun _ => by decide

theorem rdFilt5 : Statement .rdFilt5 := fun _ => by decide

theorem rdFilt6 : Statement .rdFilt6 := fun _ => by decide

theorem rdFilt7 : Statement .rdFilt7 := fun _ => by decide

theorem wrMode (m : Option Byte) : Statement (.wrMode m) := fun _ => by
  cases m <;> simp [encode, payloadOf, opcodeOf, encodeImm8, unknownOpcode, unknownRanges]

theorem wrSp (v : Option Word) : Statement (.wrSp v) := fun _ => by
  cases v <;> simp [encode, payloadOf, opcodeOf, encodeImm16, unknownOpcode, unknownRanges]

theorem wrSens (n : Option Byte) : Statement (.wrSens n) := fun _ => by
  cases n <;> simp [encode, payloadOf, opcodeOf, encodeImm8, unknownOpcode, unknownRanges]

theorem wrPwm (d : Option Byte) : Statement (.wrPwm d) := fun _ => by
  cases d <;> simp [encode, payloadOf, opcodeOf, encodeImm8, unknownOpcode, unknownRanges]

theorem wrMax (v : Option Word) : Statement (.wrMax v) := fun _ => by
  cases v <;> simp [encode, payloadOf, opcodeOf, encodeImm16, unknownOpcode, unknownRanges]

theorem srst : Statement .srst := fun _ => by decide

theorem unknown (op : Byte) : Statement (.unknown op) := fun h => by
  simpa [encode, payloadOf, opcodeOf, Instr.wellFormed] using h

end Sys2Proof.Laws.EncodingShape
end

