-- ==== Sys2Proof/Tests/Slice0.lean ====
section
/-! SUPPORT. The author's own tests. Expected values come from the rules and from the vectors of 95_test_vectors.md, which are derived
from the rules under REFCFG; a test's comment names its vector. The witnesses show that the hypotheses of each statement
can be met. -/

namespace Sys2Proof.Tests

open Sys2Proof.Machine Sys2Proof.Claims

/-! ## Small states -/

/-- The reset registers under REFCFG. -/
def r0 : Regs := Regs.resetFor Params.refcfg

/-- A state with the given registers whose next sample is `inp`, under REFCFG. -/
def st (inp : Inputs) (r : Regs) : State :=
  { cfg := Params.refcfg, regs := r, out := StepOutputs.idle, inputs := [inp], freeCount := 0 }

/-- The state after a step, or the state itself where the step does not complete. -/
def after (s : State) : State :=
  match step s with
  | .next t => t
  | .fault _ => s
  | .refused _ => s

/-- The registers after a command, or before it where it does not complete. -/
def regsAfter (i : Instr) (r : Regs) : Regs :=
  match exec i (st (Inputs.quiet false) r) with
  | .next t => t.regs
  | .fault _ => r
  | .refused _ => r

/-- A batch that carries the reading `v` on every channel. -/
def batchOf (v : Code) : Batch := { chanValid := 0xFF, data := Lanes.replicate v }

/-- One value on channel `i`, another elsewhere. -/
def one {α : Type} (i : Chan) (v d : α) : Lanes α := Lanes.ofFn fun j => if j = i then v else d

/-- Inputs of a step. -/
def quiet : Inputs := Inputs.quiet false
def req (bytes : List Byte) : Inputs := { quiet with req := some bytes }
def tick : Inputs := { quiet with tick := true }
def conv (b : Batch) : Inputs := { quiet with conv := some b }

/-! ## Well-formedness: one ill-formed term for each check -/

theorem test_refcfg_legal : Params.refcfg.legal = true := by decide
theorem test_emaK_0_refused : { Params.refcfg with emaK := one 3 0 4 }.legal = false := by decide
theorem test_emaK_17_refused : { Params.refcfg with emaK := one 7 17 4 }.legal = false := by decide
theorem test_clampThr_4096_refused : { Params.refcfg with clampThr := one 0 4096 4000 }.legal = false := by decide
theorem test_pGain_256_refused : { Params.refcfg with pGain := 256 }.legal = false := by decide
theorem test_iShift_18_refused : { Params.refcfg with iShift := 18 }.legal = false := by decide
theorem test_minAdc_above_maxAdc_refused : { Params.refcfg with minAdc := 4001 }.legal = false := by decide
theorem test_maxAdc_4096_refused : { Params.refcfg with maxAdc := 4096 }.legal = false := by decide
theorem test_tickDivM_0_refused : { Params.refcfg with tickDivM := 0 }.legal = false := by decide
theorem test_tickDivM_65536_refused : { Params.refcfg with tickDivM := 65536 }.legal = false := by decide
theorem test_defaultSetPoint_65536_refused : { Params.refcfg with defaultSetPoint := 65536 }.legal = false := by decide
theorem test_defaultControlSensor_8_refused :
    { Params.refcfg with defaultControlSensor := 8 }.legal = false := by decide
theorem test_defaultPwmDuty_256_refused : { Params.refcfg with defaultPwmDuty := 256 }.legal = false := by decide
theorem test_defaultMaxTemp_0_refused : { Params.refcfg with defaultMaxTemp := 0 }.legal = false := by decide
theorem test_defaultMaxTemp_65536_refused : { Params.refcfg with defaultMaxTemp := 65536 }.legal = false := by decide
theorem test_fwVersion_65536_refused : { Params.refcfg with fwVersion := 65536 }.legal = false := by decide
theorem test_maxPayload_1_refused : { Params.refcfg with maxPayload := 1 }.legal = false := by decide
theorem test_bounds_legal : { Params.refcfg with
    emaK := one 0 1 16, clampThr := one 0 0 4095, pGain := 255, iShift := 17, minAdc := 4095, maxAdc := 4095,
    tickDivM := 65535, defaultSetPoint := 65535, defaultControlSensor := 7, defaultPwmDuty := 255,
    defaultMaxTemp := 65535, fwVersion := 65535 }.legal = true := by decide
theorem test_unknown_of_assigned_opcode_refused : (Instr.unknown 0x31).wellFormed = false := by decide
theorem test_rdCount_0_refused : ({ quiet with rdCount := some 0 } : Inputs).inRange Params.refcfg = false := by decide
theorem test_request_without_opcode_refused : (req []).inRange Params.refcfg = false := by decide
theorem test_request_of_4_bytes_refused : (req [0x41, 1, 2, 3]).inRange Params.refcfg = false := by decide

/-! ## Decoding: every constructor's word, written out from R66 (95_test_vectors.md section 2.1) -/

theorem test_decode_rdRaw :
    decode [0b00000001] = .ok .rdRaw0 ∧ decode [0b00000010] = .ok .rdRaw1 ∧ decode [0b00000011] = .ok .rdRaw2 ∧
    decode [0b00000100] = .ok .rdRaw3 ∧ decode [0b00000101] = .ok .rdRaw4 ∧ decode [0b00000110] = .ok .rdRaw5 ∧
    decode [0b00000111] = .ok .rdRaw6 ∧ decode [0b00001000] = .ok .rdRaw7 := by decide
theorem test_decode_rdFilt :
    decode [0b00110001] = .ok .rdFilt0 ∧ decode [0b00110010] = .ok .rdFilt1 ∧ decode [0b00110011] = .ok .rdFilt2 ∧
    decode [0b00110100] = .ok .rdFilt3 ∧ decode [0b00110101] = .ok .rdFilt4 ∧ decode [0b00110110] = .ok .rdFilt5 ∧
    decode [0b00110111] = .ok .rdFilt6 ∧ decode [0b00111000] = .ok .rdFilt7 := by decide
theorem test_decode_reads :
    decode [0b00010000] = .ok .rdVer ∧ decode [0b00010001] = .ok .rdStat ∧ decode [0b00100000] = .ok .rdMode ∧
    decode [0b00100001] = .ok .rdSp ∧ decode [0b00100010] = .ok .rdSens ∧ decode [0b00100011] = .ok .rdPwm ∧
    decode [0b00100100] = .ok .rdMax := by decide
theorem test_decode_writes :
    decode [0b01000000, 0b00000010] = .ok (.wrMode (some 2)) ∧
    decode [0b01000001, 0b00110100, 0b00010010] = .ok (.wrSp (some 0x1234)) ∧
    decode [0b01000010, 0b00000111] = .ok (.wrSens (some 7)) ∧
    decode [0b01000011, 0b10000000] = .ok (.wrPwm (some 128)) ∧
    decode [0b01000100, 0b10111000, 0b00001011] = .ok (.wrMax (some 3000)) ∧
    decode [0b01010000] = .ok .srst := by decide
theorem test_decode_unknown :
    decode [0x00] = .ok (.unknown 0x00) ∧ decode [0x09] = .ok (.unknown 0x09) ∧ decode [0x30] = .ok (.unknown 0x30) ∧
    decode [0x39] = .ok (.unknown 0x39) ∧ decode [0x51] = .ok (.unknown 0x51) ∧
    decode [0xFF] = .ok (.unknown 0xFF) ∧ decode [] = .error .noOpcode := by decide
/-- WR6, WR12 and R64: under-length and over-length requests. -/
theorem test_decode_lengths :
    decode [0x40] = .ok (.wrMode none) ∧ decode [0x41, 0x34] = .ok (.wrSp none) ∧
    decode [0x44, 0xB8] = .ok (.wrMax none) ∧ decode [0x43, 0x80, 0xFF] = .ok (.wrPwm (some 128)) ∧
    decode [0x50, 0xAA] = .ok .srst := by decide
theorem test_encode_wrSp : encode (.wrSp (some 0x1234)) = [0x41, 0x34, 0x12] := by decide
theorem test_tableWord : decodeTableWord 24 0x0BB844 = some (.wrMax (some 3000)) ∧
    decodeTableWord 8 0x44 = some (.wrMax (some 0)) ∧ decodeTableWord 8 0x00 = some (.unknown 0) := by decide

/-! ## Commands -/

/-- RD10: `A0 0F`. -/
theorem test_rdRaw3 : respBytes (regsAfter .rdRaw3 { r0 with raw := one 3 4000 0 }) 2 = [0xA0, 0x0F] := by decide
/-- RD11: `E4 00 00`, the third byte being padding. -/
theorem test_rdFilt2 : respBytes (regsAfter .rdFilt2 { r0 with filt := one 2 228 0 }) 3 = [0xE4, 0x00, 0x00] := by decide
theorem test_rdRaw_channels :
    (regsAfter .rdRaw0 { r0 with raw := one 0 9 1 }).resp0 = 9 ∧ (regsAfter .rdRaw1 { r0 with raw := one 1 9 1 }).resp0 = 9 ∧
    (regsAfter .rdRaw2 { r0 with raw := one 2 9 1 }).resp0 = 9 ∧ (regsAfter .rdRaw4 { r0 with raw := one 4 9 1 }).resp0 = 9 ∧
    (regsAfter .rdRaw5 { r0 with raw := one 5 9 1 }).resp0 = 9 ∧ (regsAfter .rdRaw6 { r0 with raw := one 6 9 1 }).resp0 = 9 ∧
    (regsAfter .rdRaw7 { r0 with raw := one 7 9 1 }).resp0 = 9 := by decide
theorem test_rdFilt_channels :
    (regsAfter .rdFilt0 { r0 with filt := one 0 9 1 }).resp0 = 9 ∧ (regsAfter .rdFilt1 { r0 with filt := one 1 9 1 }).resp0 = 9 ∧
    (regsAfter .rdFilt3 { r0 with filt := one 3 9 1 }).resp0 = 9 ∧ (regsAfter .rdFilt4 { r0 with filt := one 4 9 1 }).resp0 = 9 ∧
    (regsAfter .rdFilt5 { r0 with filt := one 5 9 1 }).resp0 = 9 ∧ (regsAfter .rdFilt6 { r0 with filt := one 6 9 1 }).resp0 = 9 ∧
    (regsAfter .rdFilt7 { r0 with filt := one 7 9 1 }).resp0 = 9 := by decide
/-- RD1. -/
theorem test_rdVer : respBytes (regsAfter .rdVer r0) 2 = [0x07, 0x01] := by decide
/-- RD2, RD14. -/
theorem test_rdStat : respBytes (regsAfter .rdStat r0) 2 = [0x01, 0x00] ∧
    respBytes (regsAfter .rdStat { r0 with trip := true }) 2 = [0x03, 0x00] := by decide
/-- RD3, RD17. -/
theorem test_rdMode : respBytes (regsAfter .rdMode r0) 2 = [0x00, 0x00] ∧
    respBytes (regsAfter .rdMode { r0 with heaterMode := .pid }) 2 = [0x02, 0x00] := by decide
/-- WR5. -/
theorem test_rdSp : respBytes (regsAfter .rdSp { r0 with setPoint := 0x1234 }) 2 = [0x34, 0x12] := by decide
/-- R107's example. -/
theorem test_rdSens : respBytes (regsAfter .rdSens { r0 with controlSensor := 3 }) 2 = [0x03, 0x00] := by decide
/-- RD15, RD16. -/
theorem test_rdPwm :
    respBytes (regsAfter .rdPwm { r0 with heaterMode := .pid, cmpReg := 102, pwmDuty := 200 }) 2 = [0x66, 0x00] ∧
    respBytes (regsAfter .rdPwm { r0 with heaterMode := .pwm, cmpReg := 102, pwmDuty := 200 }) 2 = [0xC8, 0x00] := by decide
/-- RD7: 3800. -/
theorem test_rdMax : respBytes (regsAfter .rdMax r0) 2 = [0xD8, 0x0E] := by decide
/-- WR1, WR2. -/
theorem test_wrMode :
    regsAfter (.wrMode (some 1)) { r0 with trip := true, respLen := 2 } = { r0 with heaterMode := .pwm, trip := false } ∧
    regsAfter (.wrMode (some 3)) { r0 with heaterMode := .pid, trip := true } = { r0 with heaterMode := .pid, trip := true } := by
  decide
/-- WR3, WR6. -/
theorem test_wrSp : (regsAfter (.wrSp (some 2048)) r0).setPoint = 2048 ∧ (regsAfter (.wrSp none) r0).setPoint = 0 := by decide
/-- WR8, WR9. -/
theorem test_wrSens : (regsAfter (.wrSens (some 7)) r0).controlSensor = 7 ∧
    (regsAfter (.wrSens (some 8)) { r0 with controlSensor := 7 }).controlSensor = 7 := by decide
/-- WR11. -/
theorem test_wrPwm : (regsAfter (.wrPwm (some 128)) { r0 with pwmCounter := 9 }) = { r0 with pwmCounter := 9, pwmDuty := 128 } := by
  decide
/-- WR15, SM10. -/
theorem test_wrMax : regsAfter (.wrMax (some 0)) { r0 with maxTemp := 3000, trip := true } = { r0 with maxTemp := 0, trip := true } := by
  decide
/-- XU4, and no conversion request in the step. -/
theorem test_srst : (after (st (req [0x50]) { r0 with setPoint := 9, trip := true })).regs = r0 ∧
    (after (st (req [0x50]) r0)).out = { StepOutputs.idle with sysRestart := true } := by decide
/-- XU2: the response is discarded. -/
theorem test_unknown : respBytes (regsAfter (.unknown 0) { r0 with respLen := 2, resp0 := 0xE4 }) 2 = [0, 0] := by decide

/-! ## Events -/

/-- EM1, the first update: `acc = 937`, `filt = 63`, and the second: 1816, 121. -/
theorem test_ema_first : emaStep 4 0 1000 = (937, 63) ∧ emaStep 4 937 1000 = (1816, 121) := by decide
/-- EM7 (its first update) and EM9. -/
theorem test_ema_edges : emaStep 4 61425 0 = (57586, 3839) ∧ emaStep 16 0 4095 = (4095, 0) := by decide
/-- CL2: the raw reading is kept and the filter is fed 0. CL1: 3999 is not substituted. -/
theorem test_clamp : (convertBatch (batchOf 4000) (st quiet r0)).regs.raw.get 0 = 4000 ∧
    (convertBatch (batchOf 4000) (st quiet r0)).regs.filt.get 0 = 0 ∧
    (convertBatch (batchOf 3999) (st quiet r0)).regs.filt.get 0 = 250 := by decide
/-- LS2: lanes 6 and 7 are skipped. -/
theorem test_lanes_skipped : (convertBatch (batchOf 500) (st quiet { r0 with skipLatched := 0xC0 })).regs.raw =
    ⟨500, 500, 500, 500, 500, 500, 0, 0⟩ := by decide
/-- Section 2.3: the count, and the tick that wraps it. -/
theorem test_divider : (timerTick (st quiet r0)).regs.tickDiv = 1 ∧
    (timerTick (st quiet { r0 with tickDiv := 3 })).regs.tickDiv = 0 := by decide

/-- The registers of SM1 and SM9: PID mode with channel 1 above the threshold and the control tick due. -/
def hot : Regs := { r0 with heaterMode := .pid, maxTemp := 3000, raw := one 1 3500 100, tickDiv := 3 }

/-- SM1. -/
theorem test_trip : (after (st { tick with cmpWave := true } hot)).regs.heaterMode = .off ∧
    (after (st { tick with cmpWave := true } hot)).regs.trip = true ∧
    (after (st { tick with cmpWave := true } hot)).out.heaterPin = false := by decide
/-- SM9: the mode write stands, the pin is 0. -/
theorem test_trip_and_mode_write :
    (after (st { req [0x40, 0x02] with tick := true, cmpWave := true } hot)).regs.heaterMode = .pid ∧
    (after (st { req [0x40, 0x02] with tick := true, cmpWave := true } hot)).regs.trip = false ∧
    (after (st { req [0x40, 0x02] with tick := true, cmpWave := true } hot)).out.heaterPin = false := by decide
/-- SM2 (strict comparison) and SM3 (channel 6 is not monitored). -/
theorem test_no_trip : overTemp Params.refcfg { r0 with maxTemp := 3000, raw := one 1 3000 0 } = false ∧
    overTemp Params.refcfg { r0 with maxTemp := 3000, raw := one 6 4095 0 } = false := by decide

/-- Registers in PID mode: set point, the reading of channel 0, and the integrator. -/
def pidRegs (sp : Word) (r : Code) (sum : BitVec 11) : Regs :=
  { r0 with heaterMode := .pid, setPoint := sp, raw := one 0 r 0, errorSum := sum, maxTemp := 0 }

/-- PI1, PI2. -/
theorem test_pid : (controlTick (st quiet (pidRegs 2048 2000 0))).regs.errorSum = 6 ∧
    (controlTick (st quiet (pidRegs 2048 2000 0))).regs.cmpReg = 102 ∧
    (controlTick (st quiet (pidRegs 2000 2052 6))).regs.errorSum = 0 ∧
    (controlTick (st quiet (pidRegs 2000 2052 6))).regs.cmpReg = 0 := by decide
/-- PI10: the shift rounds toward minus infinity. PI5: both clamps. -/
theorem test_pid_floor : (controlTick (st quiet (pidRegs 99 100 5))).regs.errorSum = 4 ∧
    (controlTick (st quiet (pidRegs 99 100 5))).regs.cmpReg = 2 ∧
    (controlTick (st quiet (pidRegs 4000 16 996))).regs.errorSum = 1000 ∧
    (controlTick (st quiet (pidRegs 4000 16 996))).regs.cmpReg = 1000 := by decide
/-- PI6, PI7: the range guard. -/
theorem test_pid_guard : (controlTick (st quiet { pidRegs 2048 15 500 with cmpReg := 9, lastOutput := 9 })).regs = pidRegs 2048 15 500 ∧
    (controlTick (st quiet { pidRegs 2048 4001 500 with cmpReg := 9 })).regs.cmpReg = 0 := by decide
/-- PW1: passes 1 and 3, with the masks of their requests. -/
theorem test_pwm_pass :
    (after (st (conv (batchOf 0)) { r0 with heaterMode := .pwm, pwmDuty := 2, pwmCounter := 255 })).regs.pwmCounter = 0 ∧
    (after (st (conv (batchOf 0)) { r0 with heaterMode := .pwm, pwmDuty := 2, pwmCounter := 255 })).out.heaterPin = true ∧
    (after (st (conv (batchOf 0)) { r0 with heaterMode := .pwm, pwmDuty := 2, pwmCounter := 255 })).out.adcSkip = 0 ∧
    (after (st (conv (batchOf 0)) { r0 with heaterMode := .pwm, pwmDuty := 2, pwmCounter := 1 })).out.heaterPin = false ∧
    (after (st (conv (batchOf 0)) { r0 with heaterMode := .pwm, pwmDuty := 2, pwmCounter := 1 })).out.adcSkip = 0xC0 := by
  decide
/-- RD18: the read phase is served before the request of its step. -/
theorem test_read_before_request :
    (after (st { req [0x21] with rdCount := some 2 } { r0 with respLen := 2, resp0 := 0xE4, setPoint := 7 })).out.rdData = [0xE4, 0x00] ∧
    (after (st { req [0x21] with rdCount := some 2 } { r0 with respLen := 2, resp0 := 0xE4, setPoint := 7 })).regs.resp0 = 7 := by
  decide
/-- Section 2.10: the `@RST` step, with a read phase. -/
theorem test_rst : (after (st { req [0x40, 1] with rst := true, rdCount := some 2 } { hot with respLen := 2 })).regs = r0 ∧
    (after (st { req [0x40, 1] with rst := true, rdCount := some 2 } hot)).out = { StepOutputs.idle with rdData := [0, 0] } := by
  decide
/-- The first step after reset, running the request of a table word. -/
theorem test_fetch : (after (State.reset.withFetchWord 24 0x080041)).regs.setPoint = 2048 ∧
    (after (State.reset.withFetchWord 8 0x24)).regs.resp0 = 0xD8 ∧
    (after (State.reset.withFetchWord 8 0x24)).out.adcStart = true := by decide
/-- An illegal configuration and an input outside its port are refused. -/
theorem test_refusals : step { st quiet r0 with cfg := { Params.refcfg with tickDivM := 0 } } = .refused .illegalConfiguration ∧
    step (st (req []) r0) = .refused .inputOutOfRange := ⟨rfl, rfl⟩

/-! ## Witnesses: the hypotheses of the statements can be met -/

/-- The witnesses' good states: REFCFG with registers inside R41's ranges. -/
theorem witness_good_reset : r0.Good Params.refcfg :=
  ⟨by decide, by decide, rfl, fun _ => rfl, by decide, by decide, .inl rfl⟩

/-- PID-mode registers at the ends of R41's ranges. -/
def pidTop : Regs :=
  { r0 with heaterMode := .pid, cmpReg := 1000, lastOutput := 1000, errorSum := 1000, tickDiv := 3, respLen := 2, resp0 := 0xE4,
            acc := Lanes.replicate 61425 }

theorem witness_good_pid : pidTop.Good Params.refcfg :=
  ⟨by decide, by decide, rfl, fun _ => rfl, by decide, by decide, .inr rfl⟩

theorem witness_DecodeOfEncode : (Instr.unknown 0x00).wellFormed = true ∧ (Instr.unknown 0xFF).wellFormed = true ∧
    (Instr.wrSp (some 0xFFFF)).wellFormed = true := by decide
theorem witness_UnknownOpcodes_ranges : unknownOpcode 0x00 = true ∧ unknownOpcode 0x09 = true ∧ unknownOpcode 0x0F = true ∧
    unknownOpcode 0x12 = true ∧ unknownOpcode 0x1F = true ∧ unknownOpcode 0x25 = true ∧ unknownOpcode 0x30 = true ∧
    unknownOpcode 0x39 = true ∧ unknownOpcode 0x3F = true ∧ unknownOpcode 0x45 = true ∧ unknownOpcode 0x4F = true ∧
    unknownOpcode 0x51 = true ∧ unknownOpcode 0xFF = true ∧ unknownOpcode 0x08 = false ∧ unknownOpcode 0x50 = false := by decide
theorem witness_SurplusPayload : (Instr.wrSp (some 0xFFFF)).wellFormed = true ∧ fullLength (.wrSp (some 0xFFFF)) = true ∧
    (Instr.unknown 0xFF).wellFormed = true ∧ fullLength (.unknown 0xFF) = true := by decide
theorem witness_UnderLength : ([] : List Byte).length < 2 ∧ ([0x34] : List Byte).length < 2 := by decide
theorem witness_StepRuns : (st (req [0x41, 1, 2]) r0).cfg.legal = true ∧
    (sampleInputs (st (req [0x41, 1, 2]) r0)).inRange Params.refcfg = true ∧
    (sampleInputs (st (req [0x41, 1, 2]) r0)).rst = false ∧
    (sampleInputs (st (req [0x41, 1, 2]) r0)).req = some [0x41, 1, 2] ∧
    decode [0x41, 1, 2] = .ok (.wrSp (some 0x0201)) := by decide
theorem witness_IllegalConfiguration :
    (one 3 0 4 : Lanes Nat).get 3 = 0 ∧ 16 < (one 7 17 4 : Lanes Nat).get 7 ∧ 4095 < (one 0 4096 4000 : Lanes Nat).get 0 ∧
    { Params.refcfg with minAdc := 4001 }.maxAdc < { Params.refcfg with minAdc := 4001 }.minAdc := by decide
theorem witness_InputOutsideItsPort :
    (sampleInputs (st { quiet with rdCount := some 0 } r0)).rdCount = some 0 ∧
    (sampleInputs (st (req []) r0)).req = some [] ∧
    1 + (st (req [0, 0, 0, 0]) r0).cfg.maxPayload < ([0, 0, 0, 0] : List Byte).length := by decide
theorem witness_StepKeepsTheParameters : step (st tick hot) = .next (after (st tick hot)) := rfl
theorem witness_VersionRead : (st quiet r0).cfg.legal = true := by decide
theorem witness_ModeRead : r0.heaterMode = .off ∧ ({ r0 with heaterMode := .pwm } : Regs).heaterMode = .pwm ∧
    hot.heaterMode = .pid := by decide
theorem witness_SensorRead : 8 ≤ (8 : Byte).toNat ∧ 8 ≤ (255 : Byte).toNat := by decide
theorem witness_PwmRead : (st quiet pidTop).Good ∧ pidTop.heaterMode = .pid ∧ r0.heaterMode ≠ .pid :=
  ⟨⟨by decide, witness_good_pid⟩, rfl, by decide⟩
theorem witness_ThresholdRead : Params.refcfg.legal = true := by decide
theorem witness_ResponsesHide : ∃ t u, exec .rdStat (st quiet r0) = .next t ∧
    exec .rdStat (st quiet { r0 with acc := Lanes.replicate 5, errorSum := 7, pwmCounter := 3, tickDiv := 2 }) = .next u :=
  ⟨_, _, rfl, rfl⟩
theorem witness_ModeWrite : (0 : Byte).toNat = (modeCode .off).toNat ∧ (1 : Byte).toNat = (modeCode .pwm).toNat ∧
    (2 : Byte).toNat = (modeCode .pid).toNat ∧ 2 < (3 : Byte).toNat ∧ 2 < (255 : Byte).toNat := by decide
theorem witness_SensorWrite : (7 : Byte).toNat < 8 ∧ 8 ≤ (8 : Byte).toNat := by decide
theorem witness_DutyWrite : exec (.wrPwm (some 3)) (st quiet { r0 with bgWake := true, heaterMode := .pwm }) =
    .next (st quiet { r0 with bgWake := true, heaterMode := .pwm, pwmDuty := 3 }) ∧
    exec (.wrPwm (some 3)) (st quiet hot) = .next (st quiet { hot with pwmDuty := 3 }) := ⟨rfl, rfl⟩
theorem witness_ThresholdWrite : exec (.wrMax (some 0)) (st quiet r0) = .next (st quiet { r0 with maxTemp := 0 }) := rfl
theorem witness_SoftReset : (sampleInputs (st (req [0x50, 0xAA]) hot)).rst = false ∧
    requests (sampleInputs (st (req [0x50, 0xAA]) hot)) .srst ∧
    step (st (req [0x50, 0xAA]) hot) = .next (after (st (req [0x50, 0xAA]) hot)) :=
  ⟨rfl, ⟨[0x50, 0xAA], rfl, rfl⟩, rfl⟩
theorem witness_WritesLeave : isRead (.wrMax none) = false ∧ Instr.wrMax none ≠ .srst ∧ (∀ op, Instr.wrMax none ≠ .unknown op) ∧
    fullLength (.wrMax none) = false ∧ isRead (.wrSens (some 8)) = false ∧ fullLength (.wrSens (some 8)) = true :=
  ⟨rfl, by decide, fun _ => by simp, rfl, rfl, rfl⟩

/-- A step with a request and a read phase of three bytes. -/
def readStep (r : Regs) : State := st { req [0x10] with rdCount := some 3 } r

theorem witness_ReadPhase_full : (readStep pidTop).Good ∧
    step (readStep pidTop) = .next (after (readStep pidTop)) ∧
    (sampleInputs (readStep pidTop)).rdCount = some 3 :=
  ⟨⟨by decide, witness_good_pid⟩, rfl, rfl⟩
theorem witness_ReadPhase_empty : (readStep r0).Good ∧ step (readStep r0) = .next (after (readStep r0)) ∧
    (readStep r0).regs.respLen = 0 := ⟨⟨by decide, witness_good_reset⟩, rfl, rfl⟩
theorem witness_SetPointRoundTrip : ∃ (s : State) (a b c : Inputs),
    s.cfg.legal = true ∧ s.inputs = a :: b :: c :: [] ∧ a.inRange s.cfg = true ∧ b.inRange s.cfg = true ∧
    c.inRange s.cfg = true ∧ a.rst = false ∧ b.rst = false ∧ c.rst = false ∧
    requests a (.wrSp (some 0x1234)) ∧ requests b .rdSp ∧ c.rdCount = some 2 :=
  ⟨{ st quiet hot with inputs := [{ req [0x41, 0x34, 0x12] with tick := true }, { req [0x21] with tick := true },
      { req [0x50] with rdCount := some 2 }] }, _, _, _, by decide, rfl, by decide, by decide, by decide, rfl, rfl, rfl,
    ⟨_, rfl, by decide⟩, ⟨_, rfl, by decide⟩, rfl⟩
theorem witness_Conversion : (batchOf 5).chanValid.getLsbD 0 = true ∧ (0xC0 : Byte).getLsbD 5 = false ∧
    (0xC0 : Byte).getLsbD 6 = true ∧ ({ batchOf 5 with chanValid := 0x0F } : Batch).chanValid.getLsbD 4 = false := by decide
theorem witness_EmaStep : (st quiet { r0 with acc := Lanes.replicate 61425 }).cfg.legal = true ∧
    ((Lanes.replicate 61425 : Lanes Acc).get 0).toNat ≤ 4095 * (2 ^ Params.refcfg.emaK.get 0 - 1) ∧
    (batchOf 4095).chanValid.getLsbD 0 = true ∧ r0.skipLatched.getLsbD 0 = false := by decide
theorem witness_LowPass : Params.refcfg.lpe.get 0 = true ∧ Params.refcfg.clampThr.get 0 ≤ (4000 : Code).toNat ∧
    (3999 : Code).toNat < Params.refcfg.clampThr.get 0 ∧
    ({ Params.refcfg with lpe := one 0 false true }).lpe.get 0 = false := by decide
theorem witness_EmaRange : 1 ≤ 16 ∧ 4095 ≤ 4095 ∧ 268361415 ≤ 4095 * (2 ^ 16 - 1) := by decide
theorem witness_Lanes : laneSelected (batchOf 5) r0 0 = laneSelected { batchOf 5 with data := one 0 5 9 } { r0 with raw := one 3 8 0 } 0 ∧
    r0.raw.get 0 = ({ r0 with raw := one 3 8 0 } : Regs).raw.get 0 ∧
    (batchOf 5).data.get 0 = (one 0 5 9 : Lanes Code).get 0 ∧ laneSelected { batchOf 5 with chanValid := 0xFE } r0 0 = false := by decide
theorem witness_EmaFixedPoint : 1 ≤ 1 ∧ (emaStep 1 999 1000).2 = 1000 := by decide
theorem witness_OnlyConversions : step (st tick hot) = .next (after (st tick hot)) ∧ (sampleInputs (st tick hot)).conv = none ∧
    (sampleInputs (st tick hot)).rst = false ∧ ¬ requests (sampleInputs (st tick hot)) .srst :=
  ⟨rfl, rfl, rfl, fun ⟨_, h, _⟩ => by simp [sampleInputs, st, tick, quiet, Inputs.quiet] at h⟩
theorem witness_OverTemperature : step (st tick { hot with raw := one 1 3001 0 }) = .next (after (st tick { hot with raw := one 1 3001 0 })) ∧
    (sampleInputs (st tick hot)).rst = false ∧ (sampleInputs (st tick hot)).req = none ∧
    tripDue tick (st tick { hot with raw := one 1 3001 0 }) := ⟨rfl, rfl, rfl, ⟨⟨rfl, by decide⟩, by decide⟩⟩

/-- SM9's step: a control tick that trips, with `WR_MODE PID`. -/
def sm9 : State := st { req [0x40, 0x02] with tick := true } { hot with trip := true }

theorem witness_TripWins : step sm9 = .next (after sm9) ∧ (sampleInputs sm9).rst = false ∧ tripDue (sampleInputs sm9) sm9 ∧
    WritesMode (sampleInputs sm9) .pid := ⟨rfl, rfl, ⟨⟨rfl, by decide⟩, by decide⟩, ⟨2, ⟨[0x40, 0x02], rfl, rfl⟩, by decide⟩⟩
theorem witness_TripStaysLatched : step sm9 = .next (after sm9) ∧ sm9.regs.trip = true ∧ (after sm9).regs.trip = false := by
  exact ⟨rfl, rfl, by decide⟩
theorem witness_DisabledInterlock : step (st tick { hot with maxTemp := 0 }) = .next (after (st tick { hot with maxTemp := 0 })) ∧
    ({ hot with maxTemp := 0 } : Regs).maxTemp = 0 := ⟨rfl, rfl⟩
theorem witness_Divider : (st quiet r0).cfg.legal = true ∧ (st quiet r0).regs.tickDiv = 0 ∧ 0 < Params.refcfg.tickDivM ∧
    3 < Params.refcfg.tickDivM := by decide
theorem witness_PidUpdate : overTemp Params.refcfg (pidRegs 2048 2000 0) = false ∧ (pidRegs 2048 2000 0).heaterMode = .pid ∧
    (Params.refcfg.minAdc : Int) ≤ (((pidRegs 2048 16 0).raw.get (pidRegs 2048 16 0).controlSensor.toFin).toNat : Int) ∧
    (((pidRegs 2048 4000 0).raw.get (pidRegs 2048 4000 0).controlSensor.toFin).toNat : Int) ≤ (Params.refcfg.maxAdc : Int) := by
  decide
theorem witness_ReadingOutOfRange : overTemp Params.refcfg (pidRegs 2048 15 500) = false ∧
    ((pidRegs 2048 15 500).raw.get (pidRegs 2048 15 500).controlSensor.toFin).toNat < Params.refcfg.minAdc ∧
    Params.refcfg.maxAdc < ((pidRegs 2048 4001 500).raw.get (pidRegs 2048 4001 500).controlSensor.toFin).toNat := by decide
theorem witness_PidStatePersists : step (st tick hot) = .next (after (st tick hot)) ∧ (sampleInputs (st tick hot)).rst = false ∧
    ¬ (controlTickDue tick (st tick hot) ∧ hot.heaterMode = .pid ∧
        overTemp Params.refcfg (conversionEvent tick (st tick hot)).regs = false) :=
  ⟨rfl, rfl, fun h => absurd h.2.2 (by decide)⟩
theorem witness_ModeChanges_reset : step (st { quiet with rst := true } hot) = .next (after (st { quiet with rst := true } hot)) ∧
    (sampleInputs (st { quiet with rst := true } hot)).rst = true := ⟨rfl, rfl⟩
theorem witness_ModeChanges_tick : step (st tick hot) = .next (after (st tick hot)) ∧ (sampleInputs (st tick hot)).rst = false ∧
    (∀ mode, ¬ WritesMode (sampleInputs (st tick hot)) mode) ∧ tripDue (sampleInputs (st tick hot)) (st tick hot) ∧
    ¬ tripDue (sampleInputs (st tick r0)) (st tick r0) :=
  ⟨rfl, rfl, fun _ ⟨_, ⟨_, h, _⟩, _⟩ => by simp [sampleInputs, st, tick, quiet, Inputs.quiet] at h,
    ⟨⟨rfl, by decide⟩, by decide⟩, fun h => absurd h.1.2 (by decide)⟩
theorem witness_Arbiter : step (st tick hot) = .next (after (st tick hot)) ∧ (after (st tick hot)).out.tripNow = true ∧
    (after (st quiet hot)).out.tripNow = false ∧ (after (st quiet hot)).regs.heaterMode = .pid ∧
    step (st quiet hot) = .next (after (st quiet hot)) ∧ (after (st quiet r0)).regs.heaterMode ≠ .pid := by
  exact ⟨rfl, by decide, by decide, by decide, rfl, by decide⟩
theorem witness_ConversionStep : step (st (conv (batchOf 7)) { r0 with heaterMode := .pwm }) =
      .next (after (st (conv (batchOf 7)) { r0 with heaterMode := .pwm })) ∧
    step (st (conv (batchOf 7)) r0) = .next (after (st (conv (batchOf 7)) r0)) ∧
    step (st (conv (batchOf 7)) hot) = .next (after (st (conv (batchOf 7)) hot)) ∧
    ConversionOnly (conv (batchOf 7)) ∧ (conv (batchOf 7)).conv.isSome = true :=
  ⟨rfl, rfl, rfl, ⟨rfl, rfl, rfl, rfl⟩, rfl⟩
theorem witness_SoftwarePwm : ∃ s : State, s.cfg.legal = true ∧ s.regs.heaterMode = .pwm ∧ s.inputs.length = 256 ∧
    s.regs.pwmDuty = 128 ∧ ∀ inp ∈ s.inputs, ConversionOnly inp ∧ inp.conv.isSome = true :=
  ⟨{ st quiet { r0 with heaterMode := .pwm, pwmDuty := 128 } with inputs := List.replicate 256 (conv (batchOf 7)) },
    by decide, rfl, List.length_replicate, rfl,
    fun _ h => by rw [List.eq_of_mem_replicate h]; exact ⟨⟨rfl, rfl, rfl, rfl⟩, rfl⟩⟩
theorem witness_PowerOnReset : step (st { quiet with rst := true, rdCount := some 2 } hot) =
      .next (after (st { quiet with rst := true, rdCount := some 2 } hot)) ∧
    (sampleInputs (st { quiet with rst := true, rdCount := some 2 } hot)).rst = true := ⟨rfl, rfl⟩
theorem witness_FirstStep : (st quiet r0).regs = Regs.resetFor (st quiet r0).cfg ∧ step (st quiet r0) = .next (after (st quiet r0)) ∧
    (sampleInputs (st quiet r0)).rst = false ∧ (sampleInputs (st quiet r0)).req = none := ⟨rfl, rfl, rfl, rfl⟩
theorem witness_Invariants : ∃ s t : State, s.Good ∧ step s = .next t ∧ t.out.heaterPin = true :=
  ⟨st { conv (batchOf 100) with tick := true, cmpWave := true } pidTop, after (st { conv (batchOf 100) with tick := true, cmpWave := true } pidTop),
    ⟨by decide, witness_good_pid⟩, rfl, by decide⟩

theorem witness_AssertedPin : ∃ s t : State, s.Good ∧ step s = .next t ∧ t.out.heaterPin = true := witness_Invariants
theorem witness_ResetStateIsGood : Params.refcfg.legal = true := test_refcfg_legal
theorem witness_SetPointWrite : ([] : List Byte).length < 2 ∧ ([0x34] : List Byte).length < 2 := witness_UnderLength
theorem witness_UnknownOpcodeIsIgnored : unknownOpcode 0x99 = true ∧ unknownOpcode 0x00 = true := by decide
theorem witness_EmaConverges : (st quiet { r0 with acc := Lanes.replicate 61425 }).cfg.legal = true ∧
    ((Lanes.replicate 61425 : Lanes Acc).get 7).toNat ≤ 4095 * (2 ^ Params.refcfg.emaK.get 7 - 1) ∧
    (batchOf 0).chanValid.getLsbD 7 = true ∧ r0.skipLatched.getLsbD 7 = false := by decide
theorem witness_Sequencer : step (st (conv (batchOf 1)) r0) = .next (after (st (conv (batchOf 1)) r0)) ∧
    (sampleInputs (st (conv (batchOf 1)) r0)).rst = false ∧ ¬ requests (sampleInputs (st (conv (batchOf 1)) r0)) .srst :=
  ⟨rfl, rfl, fun ⟨_, h, _⟩ => by simp [sampleInputs, st, conv, quiet, Inputs.quiet] at h⟩
theorem witness_SoftResetEquals : (st { quiet with rst := true } hot).cfg = (st (req [0x50]) r0).cfg ∧
    step (st { quiet with rst := true } hot) = .next (after (st { quiet with rst := true } hot)) ∧
    step (st (req [0x50]) r0) = .next (after (st (req [0x50]) r0)) ∧ requests (req [0x50]) .srst :=
  ⟨rfl, rfl, rfl, ⟨[0x50], rfl, rfl⟩⟩

/-! ## Witnesses of the clauses over whole steps -/

/-- A sample without a request and without a power-on reset resets nothing. -/
theorem noReset_of_none {inp : Inputs} (hr : inp.rst = false) (hq : inp.req = none) : NoReset inp :=
  ⟨hr, not_requests_of_none hq _⟩

theorem witness_ConfigurationWritten :
    step (st (req [0x42, 7]) hot) = .next (after (st (req [0x42, 7]) hot)) ∧ NoReset (req [0x42, 7]) ∧
    requests (req [0x42, 7]) (.wrSens (some 7)) ∧ (7 : Byte).toNat < 8 ∧ (∀ v, ¬ requests (req [0x42, 7]) (.wrSp (some v))) ∧
    requests (req [0x41, 0, 8]) (.wrSp (some 2048)) ∧ requests (req [0x43, 0xFF]) (.wrPwm (some 255)) ∧
    requests (req [0x44, 0xB8, 0x0B]) (.wrMax (some 3000)) :=
  have h : requests (req [0x42, 7]) (.wrSens (some 7)) := ⟨_, rfl, rfl⟩
  ⟨rfl, ⟨rfl, fun h' => by cases requests_unique h h'⟩, h, by decide, (fun _ h' => by cases requests_unique h h'),
    ⟨_, rfl, rfl⟩, ⟨_, rfl, rfl⟩, ⟨_, rfl, rfl⟩⟩
/-- The rejected index 8 is no accepted write of `control_sensor`. -/
theorem witness_ConfigurationKept :
    step (st (req [0x42, 8]) hot) = .next (after (st (req [0x42, 8]) hot)) ∧ NoReset (req [0x42, 8]) ∧
    ∀ n : Byte, n.toNat < 8 → ¬ requests (req [0x42, 8]) (.wrSens (some n)) :=
  have h : requests (req [0x42, 8]) (.wrSens (some 8)) := ⟨_, rfl, rfl⟩
  ⟨rfl, ⟨rfl, fun h' => by cases requests_unique h h'⟩, fun n hn h' => by cases requests_unique h h'; simp at hn⟩

/-- Two steps, each with a read phase of three bytes, over a response left by RD_VER. -/
def readTwice : State :=
  let r : Inputs := { quiet with rdCount := some 3 }
  { st r { r0 with respLen := 2, resp0 := 7, resp1 := 1 } with inputs := [r, r] }

theorem witness_ReadPhase_again : step readTwice = .next (after readTwice) ∧
    step (after readTwice) = .next (after (after readTwice)) ∧ (sampleInputs readTwice).req = none ∧
    (sampleInputs (after readTwice)).rdCount = some 3 ∧ (after (after readTwice)).out.rdData = [7, 1, 0] :=
  ⟨rfl, rfl, rfl, rfl, by decide⟩
theorem witness_TripSet : step (st tick hot) = .next (after (st tick hot)) ∧ NoReset tick ∧
    (∀ mode, ¬ WritesMode tick mode) ∧ tripDue tick (st tick hot) ∧ hot.trip = false ∧
    (after (st tick hot)).regs.trip = true :=
  ⟨rfl, noReset_of_none rfl rfl, fun _ ⟨_, h, _⟩ => not_requests_of_none rfl _ h, ⟨⟨rfl, by decide⟩, by decide⟩, rfl, by decide⟩
theorem witness_Divider_step : step (st tick hot) = .next (after (st tick hot)) ∧ hot.tickDiv.toNat = 3 ∧
    Params.refcfg.tickDivM = 4 ∧ NoReset tick ∧ step (st quiet hot) = .next (after (st quiet hot)) ∧ NoReset quiet :=
  ⟨rfl, rfl, rfl, noReset_of_none rfl rfl, rfl, noReset_of_none rfl rfl⟩
theorem witness_PassDue : ∃ s : State, step s = .next (after s) ∧ NoReset (sampleInputs s) ∧ PassDue (sampleInputs s) s ∧
    (after s).regs.heaterMode = .pwm :=
  ⟨st { conv (batchOf 7) with tick := true } { r0 with heaterMode := .pwm }, rfl, noReset_of_none rfl rfl, .inr rfl, by decide⟩
/-- No pass is made: the drive holds 1 in PWM mode, and a trip clears it. -/
theorem witness_NoPass : let s := st tick { r0 with heaterMode := .pwm, swOut := true }
    let t := st tick { hot with heaterMode := .pwm, swOut := true }
    step s = .next (after s) ∧ NoReset tick ∧ ¬ PassDue tick s ∧ ¬ DriveForcedOff tick s ∧
    step t = .next (after t) ∧ ¬ PassDue tick t ∧ DriveForcedOff tick t :=
  ⟨rfl, noReset_of_none rfl rfl, by simp [PassDue, st, r0, Regs.resetFor, tick, quiet, Inputs.quiet],
    fun h => h.elim (fun h => absurd h.1.2 (by decide)) fun ⟨_, _, h, _⟩ => not_requests_of_none rfl _ h,
    rfl, by simp [PassDue, st, hot, r0, Regs.resetFor, tick, quiet, Inputs.quiet], .inl ⟨⟨rfl, by decide⟩, by decide⟩⟩
/-- A control tick that trips on the reading its own step's batch brings, one above the threshold. -/
theorem witness_Comparator : let inp := { conv (batchOf 3001) with tick := true }
    let s := st inp { hot with raw := Lanes.replicate 0, maxTemp := 3000 }
    step s = .next (after s) ∧ (sampleInputs s).rst = false ∧ (after s).out.tripNow = true ∧
    (readingUsed inp s 0).toNat = 3001 ∧ 4095 ≤ (4095 : Word).toNat ∧
    ({ Params.refcfg with tempMask := 0 } : Params).tempMask = 0 := by
  exact ⟨rfl, rfl, by decide, by decide, by decide, rfl⟩
/-- Under REFCFG an accumulator has 16 bits (R17): storage bit 16 is no part of the register. -/
theorem test_accWidth : accValue Params.refcfg { r0 with acc := Lanes.replicate 0x10005 } 0 = 5 ∧
    accStore Params.refcfg 0 0x10005 = 5 := by decide
theorem witness_AccumulatorWidth : (st quiet r0).cfg.legal = true ∧ (batchOf 9).chanValid.getLsbD 7 = true ∧
    r0.skipLatched.getLsbD 7 = false ∧
    ((Lanes.replicate 0x10005 : Lanes Acc).get 7).toNat % 2 ^ (12 + Params.refcfg.emaK.get 7) =
      ((Lanes.replicate 5 : Lanes Acc).get 7).toNat % 2 ^ (12 + Params.refcfg.emaK.get 7) := by decide
/-- A conversion that shares its step with a tick, a read phase and a request. -/
theorem witness_FilterBankOfABusyStep :
    let inp := { conv (batchOf 7) with tick := true, rdCount := some 2, req := some [0x43, 9] }
    step (st inp hot) = .next (after (st inp hot)) ∧ NoReset inp :=
  have h : requests { conv (batchOf 7) with tick := true, rdCount := some 2, req := some [0x43, 9] } (.wrPwm (some 9)) :=
    ⟨_, rfl, rfl⟩
  ⟨rfl, rfl, fun h' => by cases requests_unique h h'⟩
/-- A PID update on the reading that the step's own batch brings, at MIN_ADC and one below it. -/
theorem witness_PidUpdateDue :
    let s := fun v => st { conv (batchOf v) with tick := true } { pidRegs 2048 4095 500 with tickDiv := 3 }
    step (s 16) = .next (after (s 16)) ∧ NoReset (sampleInputs (s 16)) ∧ PidUpdateDue (sampleInputs (s 16)) (s 16) ∧
    (readingUsed (sampleInputs (s 16)) (s 16) 0).toNat = Params.refcfg.minAdc ∧
    step (s 15) = .next (after (s 15)) ∧ NoReset (sampleInputs (s 15)) ∧ PidUpdateDue (sampleInputs (s 15)) (s 15) ∧
    (readingUsed (sampleInputs (s 15)) (s 15) 0).toNat < Params.refcfg.minAdc :=
  ⟨rfl, noReset_of_none rfl rfl, ⟨⟨rfl, by decide⟩, by decide, by decide⟩, by decide,
    rfl, noReset_of_none rfl rfl, ⟨⟨rfl, by decide⟩, by decide, by decide⟩, by decide⟩
theorem witness_SkipMask :
    let s := st (conv (batchOf 1)) { r0 with heaterMode := .pwm }
    step s = .next (after s) ∧ (sampleInputs s).rst = false ∧ (after s).out.adcStart = true ∧
    (after s).out.adcSkip = Params.refcfg.viMask ∧
    step (st tick hot) = .next (after (st tick hot)) ∧
    (after (st tick { hot with startReq := false })).out.adcStart = false := by
  exact ⟨rfl, rfl, by decide, by decide, rfl, by decide⟩

end Sys2Proof.Tests
end

section
/-! Proofs of the encoding family (30_encoding.md): what the decoder makes of an opcode, what a request's length gives the operand,
and that every command completes. -/

namespace Sys2Proof

open Machine

/-! ## The decoder -/

theorem decode_cons (op : Byte) (payload : List Byte) : decode (op :: payload) = .ok (decodeOpcode op payload) := rfl

-- R66: the rows of the opcode map that carry an operand.

theorem decode_wrMode (payload : List Byte) : decode (0x40 :: payload) = .ok (.wrMode (imm8 payload)) := rfl

theorem decode_wrSp (payload : List Byte) : decode (0x41 :: payload) = .ok (.wrSp (imm16 payload)) := rfl

theorem decode_wrSens (payload : List Byte) : decode (0x42 :: payload) = .ok (.wrSens (imm8 payload)) := rfl

theorem decode_wrPwm (payload : List Byte) : decode (0x43 :: payload) = .ok (.wrPwm (imm8 payload)) := rfl

theorem decode_wrMax (payload : List Byte) : decode (0x44 :: payload) = .ok (.wrMax (imm16 payload)) := rfl

@[simp] theorem imm8_nil : imm8 [] = none := rfl

@[simp] theorem imm8_cons (p0 : Byte) (rest : List Byte) : imm8 (p0 :: rest) = some p0 := rfl

@[simp] theorem imm16_cons_cons (p0 p1 : Byte) (rest : List Byte) :
    imm16 (p0 :: p1 :: rest) = some (wordOfBytes p0 p1) := rfl

theorem imm16_eq_none_iff (payload : List Byte) : imm16 payload = none ↔ payload.length < 2 := by
  match payload with
  | [] => simp [imm16]
  | [_] => simp [imm16]
  | _ :: _ :: _ => simp

/-- R68's list in numbers. -/
theorem unknownOpcode_iff (op : Byte) : unknownOpcode op = true ↔
    (op.toNat = 0x00 ∨ (0x09 ≤ op.toNat ∧ op.toNat ≤ 0x0F) ∨ (0x12 ≤ op.toNat ∧ op.toNat ≤ 0x1F) ∨
     (0x25 ≤ op.toNat ∧ op.toNat ≤ 0x30) ∨ (0x39 ≤ op.toNat ∧ op.toNat ≤ 0x3F) ∨
     (0x45 ≤ op.toNat ∧ op.toNat ≤ 0x4F) ∨ (0x51 ≤ op.toNat ∧ op.toNat ≤ 0xFF)) := by
  simp [unknownOpcode, unknownRanges]

/-- The opcode map leaves exactly R68's opcodes unassigned: each row's opcode lies outside the list, and an opcode that is none of
the rows' lies in it. -/
theorem decodeOpcode_eq_unknown_iff (op : Byte) (payload : List Byte) :
    decodeOpcode op payload = .unknown op ↔ unknownOpcode op = true := by
  have hop : op.toNat < 256 := op.isLt
  rw [unknownOpcode_iff]
  unfold decodeOpcode
  split
  case h_30 =>
    simp only [true_iff, imp_false] at *
    omega
  all_goals
    simp only [reduceCtorEq, false_iff]
    omega

theorem decode_eq_unknown_iff (op : Byte) (payload : List Byte) :
    decode (op :: payload) = .ok (.unknown op) ↔ unknownOpcode op = true := by
  rw [decode_cons, Except.ok.injEq, decodeOpcode_eq_unknown_iff]

/-- R68: 227 of the 256 opcodes are unknown. -/
theorem countP_unknownOpcode : ((List.range 256).countP fun n => unknownOpcode (BitVec.ofNat 8 n)) = 227 := by
  decide +kernel

/-! ## What a command does -/

/-- R117: whatever the unknown opcode. -/
theorem exec_unknown (op : Byte) (s : State) : exec (.unknown op) s = .next (Claims.emptied s) := rfl

/-- No command traps. -/
theorem exec_completes (i : Instr) (s : State) : ∃ t, exec i s = .next t := by
  cases i with
  | wrMode m =>
    simp only [exec, execWrMode]
    split <;> exact ⟨_, rfl⟩
  | wrSens n =>
    simp only [exec, execWrSens]
    split
    · split <;> exact ⟨_, rfl⟩
    · exact ⟨_, rfl⟩
  | wrSp v => cases v <;> exact ⟨_, rfl⟩
  | wrPwm d => cases d <;> exact ⟨_, rfl⟩
  | wrMax v => cases v <;> exact ⟨_, rfl⟩
  | _ => exact ⟨_, rfl⟩

/-- R64, R110: an under-length command empties the response and does nothing else. -/
theorem exec_of_underLength {i : Instr} (h : fullLength i = false) (s : State) :
    exec i s = .next (Claims.emptied s) := by
  cases i with
  | wrMode m => cases m <;> [rfl; cases h]
  | wrSp v => cases v <;> [rfl; cases h]
  | wrSens n => cases n <;> [rfl; cases h]
  | wrPwm d => cases d <;> [rfl; cases h]
  | wrMax v => cases v <;> [rfl; cases h]
  | _ => cases h

/-! ## The obligations -/

/-- Settles O2: the opcode map leaves exactly the listed opcodes unassigned, and no command has a path that stops. -/
theorem unknownOpcodesAreThoseListed : Obligations.UnknownOpcodesAreThoseListed := by
  refine ⟨fun op payload => ?listed, ?count, exec_unknown, fun op payload => ?completes⟩
  case listed => rw [decode_eq_unknown_iff, unknownOpcode_iff]
  case count => simpa only [decode_eq_unknown_iff, Bool.decide_eq_true] using countP_unknownOpcode
  case completes => exact ⟨decodeOpcode op payload, decode_cons op payload, exec_completes _⟩

/-- Settles O4: a payload that is too short leaves the operand `none`, and then the command is under-length. -/
theorem underLengthRequestsChangeNothing : Obligations.UnderLengthRequestsChangeNothing := by
  constructor
  · rintro op (rfl | rfl | rfl)
    · exact ⟨_, decode_wrMode [], exec_of_underLength (by simp [fullLength])⟩
    · exact ⟨_, decode_wrSens [], exec_of_underLength (by simp [fullLength])⟩
    · exact ⟨_, decode_wrPwm [], exec_of_underLength (by simp [fullLength])⟩
  · intro op payload hop hlen
    have himm : imm16 payload = none := (imm16_eq_none_iff payload).2 hlen
    rcases hop with rfl | rfl
    · exact ⟨_, decode_wrSp payload, exec_of_underLength (by simp [fullLength, himm])⟩
    · exact ⟨_, decode_wrMax payload, exec_of_underLength (by simp [fullLength, himm])⟩

/-- Settles O5: an FMT1 operand is the first payload byte, an FMT2 operand the little-endian pair of the first two. -/
theorem operandsAreAssembledUnsigned : Obligations.OperandsAreAssembledUnsigned := by
  intro p0 p1 rest
  refine ⟨?_, ?_, ?_, wordOfBytes p0 p1, toNat_wordOfBytes p0 p1, ?_, ?_⟩
  · rw [decode_wrMode, imm8_cons]
  · rw [decode_wrSens, imm8_cons]
  · rw [decode_wrPwm, imm8_cons]
  · rw [decode_wrSp, imm16_cons_cons]
  · rw [decode_wrMax, imm16_cons_cons]

end Sys2Proof
end

section
/-! Proofs of the sensor-conditioning family (40_sensor_conditioning.md): which lanes a conversion updates, and that a selected lane's
EMA step loses nothing in the narrowing to its registers. -/

namespace Sys2Proof

open Machine

/-! ## The EMA step -/

theorem emaOutput_eq_shiftRight (k a : Nat) : emaOutput k a = (a + 2 ^ (k - 1)) >>> k :=
  (Nat.shiftRight_eq_div_pow _ _).symm

/-- The subtraction `a - y` of R75 does not go below 0. -/
theorem emaOutput_le_self {k : Nat} (hk : 1 ≤ k) (a : Nat) : emaOutput k a ≤ a := by
  have hhalf := Nat.two_pow_pred_add_two_pow_pred hk
  have hpos := Nat.two_pow_pos (k - 1)
  have hmul : a ≤ 2 ^ k * a := Nat.le_mul_of_pos_left a (Nat.two_pow_pos k)
  have hlt : a + 2 ^ (k - 1) < 2 ^ k * (a + 1) := by
    rw [Nat.mul_succ]
    omega
  exact Nat.lt_succ_iff.1 (Nat.div_lt_of_lt_mul hlt)

/-- An accumulator in the range of R76 and a 12-bit input sum to at most `4095 * 2^K`. -/
theorem acc_add_input_le {k acc x : Nat} (hacc : acc ≤ 4095 * (2 ^ k - 1)) (hx : x ≤ 4095) : acc + x ≤ 4095 * 2 ^ k := by
  have := Nat.two_pow_pos k
  omega

/-- R76: the output fits its 12-bit register. -/
theorem emaOutput_le {k a : Nat} (hk : 1 ≤ k) (ha : a ≤ 4095 * 2 ^ k) : emaOutput k a ≤ 4095 := by
  have hhalf := Nat.two_pow_pred_add_two_pow_pred hk
  have hpos := Nat.two_pow_pos (k - 1)
  exact Nat.lt_succ_iff.1 (Nat.div_lt_of_lt_mul (by omega))

/-- R75: the step moves the output out of the accumulator, so the two together hold what came in. -/
theorem emaStep_add {k : Nat} (hk : 1 ≤ k) (acc x : Nat) : (emaStep k acc x).1 + (emaStep k acc x).2 = acc + x :=
  Nat.sub_add_cancel (emaOutput_le_self hk _)

@[simp] theorem emaStep_snd (k acc x : Nat) : (emaStep k acc x).2 = emaOutput k (acc + x) := rfl

/-- R17, R76: from an accumulator in its range and a 12-bit input, both results fit their registers. -/
theorem emaStep_fits {k acc x : Nat} (hk : 1 ≤ k) (hacc : acc ≤ 4095 * (2 ^ k - 1)) (hx : x ≤ 4095) :
    (emaStep k acc x).1 < 2 ^ (12 + k) ∧ (emaStep k acc x).2 < 2 ^ 12 := by
  have hle : acc + x ≤ 4095 * 2 ^ k := acc_add_input_le hacc hx
  have hy : (emaStep k acc x).2 ≤ 4095 := emaOutput_le hk hle
  have hsum := emaStep_add hk acc x
  have hpos := Nat.two_pow_pos k
  rw [Nat.pow_add]
  omega

/-! ## One lane of a conversion -/

/-- R72: the batch carries the lane and the request did not skip it. -/
theorem laneSelected_iff (b : Batch) (r : Regs) (i : Chan) :
    laneSelected b r i = true ↔ b.chanValid.getLsbD i = true ∧ r.skipLatched.getLsbD i = false := by
  simp [laneSelected, maskBit]

/-- An accumulator in the range of R76 has no bit above its register's width, so the lane steps from the storage's whole value. -/
theorem laneStep_of_acc_le {c : Params} {r : Regs} {i : Chan} (b : Batch)
    (hacc : (r.acc.get i).toNat ≤ 4095 * (2 ^ c.emaK.get i - 1)) :
    laneStep c b r i = emaStep (c.emaK.get i) (r.acc.get i).toNat (filterInput c i (b.data.get i)) := by
  rw [laneStep, accValue_of_lt (acc_range_lt hacc)]

/-- Of the configuration and the registers, a lane's step reads the lane's own parameters and accumulator alone (R78). -/
theorem laneStep_congr {b d : Batch} {c e : Params} {r q : Regs} {i : Chan} (hk : c.emaK.get i = e.emaK.get i)
    (hlpe : c.lpe.get i = e.lpe.get i) (hthr : c.clampThr.get i = e.clampThr.get i) (hacc : r.acc.get i = q.acc.get i)
    (hdata : b.data.get i = d.data.get i) : laneStep c b r i = laneStep e d q i := by
  simp only [laneStep, accValue, accWidth, filterInput, hk, hlpe, hthr, hacc, hdata]

theorem accStore_congr {c e : Params} {i : Chan} (hk : c.emaK.get i = e.emaK.get i) (n : Nat) :
    accStore c i n = accStore e i n := by
  simp only [accStore, accWidth, hk]

/-- R72, R78: what a lane that is not selected keeps. -/
theorem convertBatch_keeps_unselected {b : Batch} {s : State} {i : Chan} (h : laneSelected b s.regs i = false) :
    (convertBatch b s).regs.raw.get i = s.regs.raw.get i ∧
    (convertBatch b s).regs.acc.get i = s.regs.acc.get i ∧
    (convertBatch b s).regs.filt.get i = s.regs.filt.get i := by
  simp [convertBatch_raw_get, convertBatch_acc_get, convertBatch_filt_get, h]

/-- R75, R76: from an accumulator in its range, the registers of a selected lane hold both results of its EMA step uncut. -/
theorem convertBatch_toNat_of_acc_le {b : Batch} {s : State} {i : Chan} (hlegal : s.cfg.legal = true)
    (hacc : (s.regs.acc.get i).toNat ≤ 4095 * (2 ^ s.cfg.emaK.get i - 1)) (hsel : laneSelected b s.regs i = true) :
    ((convertBatch b s).regs.acc.get i).toNat =
      (emaStep (s.cfg.emaK.get i) (s.regs.acc.get i).toNat (filterInput s.cfg i (b.data.get i))).1 ∧
    ((convertBatch b s).regs.filt.get i).toNat =
      (emaStep (s.cfg.emaK.get i) (s.regs.acc.get i).toNat (filterInput s.cfg i (b.data.get i))).2 := by
  obtain ⟨hk, -⟩ := (legal_iff s.cfg).1 hlegal
  obtain ⟨hfitAcc, hfitFilt⟩ := emaStep_fits (hk i).1 hacc (filterInput_le s.cfg i (b.data.get i))
  rw [← laneStep_of_acc_le b hacc] at hfitAcc hfitFilt ⊢
  constructor
  · rw [convertBatch_acc_get, if_pos hsel, toNat_accStore (hk i).2, accWidth, Nat.mod_eq_of_lt hfitAcc]
  · rw [convertBatch_filt_get, if_pos hsel, BitVec.toNat_ofNat, Nat.mod_eq_of_lt hfitFilt]

/-! ## The obligations -/

/-- Settles O33: neither register write cuts anything, and the step's two results sum to `a`. -/
theorem emaStepIsExact : Obligations.EmaStepIsExact := by
  intro b s i hlegal hacc hvalid hskip
  obtain ⟨hk, -⟩ := (legal_iff s.cfg).1 hlegal
  have hsel : laneSelected b s.regs i = true := (laneSelected_iff b s.regs i).2 ⟨hvalid, hskip⟩
  obtain ⟨hacc', hfilt'⟩ := convertBatch_toNat_of_acc_le hlegal hacc hsel
  refine ⟨_, _, rfl, rfl, ?_, ?_⟩
  · rw [← emaOutput_eq_shiftRight, hacc', ← emaStep_snd, emaStep_add (hk i).1]
  · rw [← emaOutput_eq_shiftRight, hfilt', emaStep_snd]

/-- Settles O36: the three registers of a lane are an `if` on its selection between its step and its old registers, and both agree. -/
theorem lanesAreIndependent : Obligations.LanesAreIndependent := by
  intro b d s t i hk hlpe hthr hraw hacc hfilt hdata hsel
  have hstep : laneStep s.cfg b s.regs i = laneStep t.cfg d t.regs i := laneStep_congr hk hlpe hthr hacc hdata
  refine ⟨?_, ?_, ?_, convertBatch_keeps_unselected⟩
  · rw [convertBatch_raw_get, convertBatch_raw_get, hsel, hdata, hraw]
  · rw [convertBatch_acc_get, convertBatch_acc_get, hsel, hstep, accStore_congr hk, hacc]
  · rw [convertBatch_filt_get, convertBatch_filt_get, hsel, hstep, hfilt]

end Sys2Proof
end

section
/-! Proofs of the PI-controller family (42_pid.md): how wide the reading is, and with it the error. -/

namespace Sys2Proof

open Machine

/-! ## The error -/

/-- R88: the reading is a 12-bit code. -/
theorem controlReading_le (r : Regs) : controlReading r ≤ 4095 := Nat.le_of_lt_succ (r.raw.get r.controlSensor.toFin).isLt

/-- R89: the 16-bit set point gives the upper bound, a 12-bit reading the lower one. -/
theorem pidError_bounds (r : Regs) {reading : Nat} (hreading : reading ≤ 4095) :
    -4095 ≤ pidError r reading ∧ pidError r reading ≤ 65535 := by
  have hsp : r.setPoint.toNat < 65536 := r.setPoint.isLt
  unfold pidError
  omega

/-! ## The obligations -/

/-- Settles O47: the difference is the definition itself; its bounds are those of the two registers' widths. -/
theorem pidErrorIsTheSignedDifference : Obligations.PidErrorIsTheSignedDifference :=
  fun r => ⟨rfl, pidError_bounds r (controlReading_le r)⟩

end Sys2Proof
end

section
/-! Proofs of the read-command family (44_cmd_read.md): that every read answers the two bytes of the register it names and changes
nothing else, and that its payload does not matter. -/

namespace Sys2Proof

open Machine Claims

/-! ## A read's request -/

/-- R62, R66: a read has no operand, so that its opcode alone decides, with any payload. -/
theorem decode_of_isRead {i : Instr} {op : Byte} {payload : List Byte} (h : isRead i = true) (hop : opcodeOf i = op) :
    decode (op :: payload) = .ok i := by
  subst hop
  cases i with
  | wrMode _ | wrSp _ | wrSens _ | wrPwm _ | wrMax _ | srst | unknown _ => cases h
  | _ => rfl

/-! ## A read's response -/

theorem loByte_eq_ofNat (v : Word) : loByte v = BitVec.ofNat 8 (v.toNat % 256) := by
  apply BitVec.eq_of_toNat_eq
  rw [toNat_loByte, BitVec.toNat_ofNat]
  omega

theorem hiByte_eq_ofNat (v : Word) : hiByte v = BitVec.ofNat 8 (v.toNat / 256) := by
  have hv : v.toNat < 65536 := v.isLt
  apply BitVec.eq_of_toNat_eq
  rw [toNat_hiByte, BitVec.toNat_ofNat]
  omega

/-- R10: `Resp(v)` is the answer `v` of the statements. -/
theorem answers_of_respond {i : Instr} {s : State} {v : Word} (h : exec i s = .next (respond v s)) :
    Answers i s v.toNat := by
  unfold Answers
  rw [h, respond, loByte_eq_ofNat, hiByte_eq_ofNat]

/-- R47: zero-extension keeps the value of a register of at most 16 bits. -/
theorem answers_of_respond_zext16 {w : Nat} (hw : w ≤ 16) {i : Instr} {s : State} {v : BitVec w}
    (h : exec i s = .next (respond (zext16 v) s)) : Answers i s v.toNat :=
  toNat_zext16 hw v ▸ answers_of_respond h

/-- R101, for the instruction of channel `c`. -/
theorem answers_of_readRaw {i : Instr} {c : Chan} {s : State} (h : exec i s = .next (readRaw c s)) :
    Answers i s (s.regs.raw.get c).toNat :=
  answers_of_respond_zext16 (by decide) h

/-- R103: a parameter of at most 65535 is answered uncut. -/
theorem answers_rdVer {s : State} (h : s.cfg.fwVersion ≤ 65535) : Answers .rdVer s s.cfg.fwVersion := by
  have hfits : (BitVec.ofNat 16 s.cfg.fwVersion).toNat = s.cfg.fwVersion := by
    rw [BitVec.toNat_ofNat]
    omega
  exact hfits ▸ answers_of_respond rfl

/-- R106. -/
theorem answers_rdSp (s : State) : Answers .rdSp s s.regs.setPoint.toNat := answers_of_respond rfl

/-- R107. -/
theorem answers_rdSens (s : State) : Answers .rdSens s s.regs.controlSensor.toNat :=
  answers_of_respond_zext16 (by decide) rfl

/-- R109. -/
theorem answers_rdMax (s : State) : Answers .rdMax s s.regs.maxTemp.toNat := answers_of_respond rfl

/-! ## What a read finds after a write or a reset -/

/-- R112: every 16-bit value is written. -/
theorem exec_wrSp_some (v : Word) (s : State) :
    exec (.wrSp (some v)) s = .next { s with regs := { s.regs with respLen := 0, setPoint := v } } := rfl

/-- R113: an index above 7 is rejected, which empties the response and does nothing else. -/
theorem exec_wrSens_of_ge {n : Byte} (h : 8 ≤ n.toNat) (s : State) :
    exec (.wrSens (some n)) s = .next (emptied s) :=
  if_neg (Nat.not_lt.2 h)

/-- R42: a threshold parameter of at most 65535 fits the register. -/
theorem toNat_resetFor_maxTemp {c : Params} (h : c.defaultMaxTemp ≤ 65535) :
    (Regs.resetFor c).maxTemp.toNat = c.defaultMaxTemp := by
  rw [Regs.resetFor, BitVec.toNat_ofNat]
  omega

/-! ## The obligations -/

/-- Settles O12: each of the eight commands is a read whose arm is `readRaw` of its channel; reset writes 0 to every lane. -/
theorem rawReadsAnswerTheReading : Obligations.RawReadsAnswerTheReading := by
  refine ⟨fun s payload => ⟨?_, ?_, ?_, ?_, ?_, ?_, ?_, ?_⟩, fun _ i => Lanes.get_replicate 0 i⟩
  all_goals exact ⟨decode_of_isRead rfl rfl, answers_of_readRaw rfl⟩

/-- Settles O14: a legal FW_VERSION fits the 16 bits of a response. -/
theorem versionReadAnswersTheParameter : Obligations.VersionReadAnswersTheParameter := by
  intro s payload hlegal
  obtain ⟨-, -, -, -, -, -, -, -, -, -, -, -, -, hver, -⟩ := (legal_iff s.cfg).1 hlegal
  exact ⟨decode_of_isRead rfl rfl, answers_rdVer hver⟩

/-- Settles O17: the read answers the register that the write has just set. -/
theorem setPointReadAnswersTheTarget : Obligations.SetPointReadAnswersTheTarget := by
  intro s payload
  refine ⟨decode_of_isRead rfl rfl, answers_rdSp s, fun v => ?afterWrite⟩
  exact ⟨_, exec_wrSp_some v s, answers_rdSp _⟩

/-- Settles O18: the index has three bits, and a rejected write leaves the register as it was. -/
theorem sensorReadAnswersTheIndex : Obligations.SensorReadAnswersTheIndex := by
  intro s payload
  have hindex : s.regs.controlSensor.toNat ≤ 7 := Nat.le_of_lt_succ s.regs.controlSensor.isLt
  refine ⟨decode_of_isRead rfl rfl, answers_rdSens s, hindex, fun n hn => ?afterRejectedWrite⟩
  exact ⟨emptied s, exec_wrSens_of_ge hn s, answers_rdSens (emptied s)⟩

/-- Settles O20: a legal DEFAULT_MAX_TEMP is at least 1 and fits the register that reset puts it in. -/
theorem thresholdReadAnswersMaxTemp : Obligations.ThresholdReadAnswersMaxTemp := by
  refine ⟨fun s payload => ⟨decode_of_isRead rfl rfl, answers_rdMax s⟩, fun c hlegal => ?afterReset⟩
  obtain ⟨-, -, -, -, -, -, -, -, -, -, -, hpos, hmax, -⟩ := (legal_iff c).1 hlegal
  have hanswer := answers_rdMax (State.resetFor c)
  rw [State.resetFor, toNat_resetFor_maxTemp hmax] at hanswer
  exact ⟨hanswer, Nat.one_le_iff_ne_zero.1 hpos⟩

end Sys2Proof
end

section
/-! Proofs of the write-command family (45_cmd_write.md): what a write command leaves unchanged, which bytes stand for it, and that an
opcode outside the map does nothing. -/

namespace Sys2Proof

open Machine Claims

/-! ## A write's request -/

/-- R65: the bytes after a one-byte operand are not read. -/
theorem imm8_encodeImm8_append {o : Option Byte} (h : o.isSome = true) (extra : List Byte) :
    imm8 (encodeImm8 o ++ extra) = o := by
  cases o with
  | none => cases h
  | some p0 => exact imm8_cons p0 extra

/-- R63, R65: the two bytes of an operand give it back, and the bytes after them are not read. -/
theorem imm16_encodeImm16_append {o : Option Word} (h : o.isSome = true) (extra : List Byte) :
    imm16 (encodeImm16 o ++ extra) = o := by
  cases o with
  | none => cases h
  | some v => exact (imm16_cons_cons _ _ extra).trans (congrArg some (wordOfBytes_bytes v))

/-- R62, R65: a full-length request decodes to its command, whatever follows the bytes of its format. -/
theorem decode_encode_append {i : Instr} (hwf : i.wellFormed = true) (hfull : fullLength i = true) (extra : List Byte) :
    decode (encode i ++ extra) = .ok i := by
  rw [encode, List.cons_append]
  cases i with
  | wrMode m => exact (decode_wrMode _).trans (by rw [payloadOf, imm8_encodeImm8_append hfull])
  | wrSp v => exact (decode_wrSp _).trans (by rw [payloadOf, imm16_encodeImm16_append hfull])
  | wrSens n => exact (decode_wrSens _).trans (by rw [payloadOf, imm8_encodeImm8_append hfull])
  | wrPwm d => exact (decode_wrPwm _).trans (by rw [payloadOf, imm8_encodeImm8_append hfull])
  | wrMax v => exact (decode_wrMax _).trans (by rw [payloadOf, imm16_encodeImm16_append hfull])
  | srst => rfl
  | unknown op => exact (decode_eq_unknown_iff op _).2 hwf
  | _ => exact decode_of_isRead rfl rfl

/-- R68: the encoding restricts the opcode of an unknown command and nothing else. -/
theorem wellFormed_of_ne_unknown {i : Instr} (h : ∀ op, i ≠ .unknown op) : i.wellFormed = true := by
  cases i with
  | unknown op => exact absurd rfl (h op)
  | _ => rfl

/-! ## What a write does -/

/-- R110, R117: a command that is neither a read nor SRST empties the response and keeps the registers of the conversion, the
controller, the PWM counter and the divider. -/
theorem exec_keeps_datapath {i : Instr} {s t : State} (hread : isRead i = false) (hsrst : i ≠ .srst) (h : exec i s = .next t) :
    t.regs.respLen = 0 ∧ t.regs.raw = s.regs.raw ∧ t.regs.acc = s.regs.acc ∧ t.regs.filt = s.regs.filt ∧
    t.regs.errorSum = s.regs.errorSum ∧ t.regs.lastOutput = s.regs.lastOutput ∧ t.regs.cmpReg = s.regs.cmpReg ∧
    t.regs.pwmCounter = s.regs.pwmCounter ∧ t.regs.tickDiv = s.regs.tickDiv := by
  rcases exec_cases h with ⟨hread', _⟩ | ⟨_, _, rfl⟩ | ⟨m, mode, _, _, rfl⟩ | ⟨v, _, rfl⟩ | ⟨n, _, _, rfl⟩ | ⟨d, _, rfl⟩ |
    ⟨v, _, rfl⟩ | ⟨hsrst', _⟩
  · exact absurd (hread.symm.trans hread') Bool.false_ne_true
  on_goal 7 => exact absurd hsrst' hsrst
  all_goals exact ⟨rfl, rfl, rfl, rfl, rfl, rfl, rfl, rfl, rfl⟩

/-- R113: an index below 8 is written. -/
theorem exec_wrSens_of_lt {n : Byte} (h : n.toNat < 8) (s : State) :
    exec (.wrSens (some n)) s =
      .next { s with regs := { s.regs with respLen := 0, controlSensor := n.setWidth 3 } } :=
  if_pos h

/-- R113: an index below 8 fits the three bits of its register. -/
theorem toNat_sensorIndex {n : Byte} (h : n.toNat < 8) : (n.setWidth 3).toNat = n.toNat := by
  rw [BitVec.toNat_setWidth, Nat.mod_eq_of_lt h]

/-- R88: the controller reads the channel that `control_sensor` names. -/
theorem controlReading_of_index {r : Regs} {c : Chan} (h : r.controlSensor.toNat = c.val) :
    controlReading r = (r.raw.get c).toNat := by
  have hchan : r.controlSensor.toFin = c := Fin.ext h
  rw [controlReading, hchan]

/-! ## The obligations -/

/-- Settles O29: no write has a path that stops, and the one register an accepted write sets is none of the datapath's. -/
theorem writesLeaveTheDatapathAlone : Obligations.WritesLeaveTheDatapathAlone := by
  intro i s hread hsrst hunknown
  obtain ⟨t, ht⟩ := exec_completes i s
  exact ⟨⟨t, ht, exec_keeps_datapath hread hsrst ht⟩, fun hshort => exec_of_underLength hshort s,
    fun hfull extra => decode_encode_append (wellFormed_of_ne_unknown hunknown) hfull extra⟩

/-- Settles O23: the operand is the little-endian pair of the first two payload bytes, and its write has no check. -/
theorem setPointWriteAcceptsEveryValue : Obligations.SetPointWriteAcceptsEveryValue := by
  refine fun s => ⟨fun p0 p1 rest => ?accepted, fun payload hlen => ?tooShort, exec_of_underLength rfl s⟩
  case accepted =>
    refine ⟨wordOfBytes p0 p1, toNat_wordOfBytes p0 p1, ?_, exec_wrSp_some _ s⟩
    rw [decode_wrSp, imm16_cons_cons]
  case tooShort => rw [decode_wrSp, (imm16_eq_none_iff payload).2 hlen]

/-- Settles O24: an index that passes the check fits the register, so that the controller reads the channel it names. -/
theorem sensorWriteKeepsTheIndexValid : Obligations.SensorWriteKeepsTheIndexValid := by
  refine fun s => ⟨fun n rest => ?decoded, ?underLength, fun n hn => ?accepted, fun n hn => exec_wrSens_of_ge hn s,
    exec_of_underLength rfl s⟩
  case decoded => rw [decode_wrSens, imm8_cons]
  case underLength => rw [decode_wrSens, imm8_nil]
  case accepted =>
    have hindex := toNat_sensorIndex hn
    exact ⟨n.setWidth 3, hindex, exec_wrSens_of_lt hn s, controlReading_of_index hindex⟩

/-- Settles O28: an opcode of R68's list is none of the map's, and an empty response is read as zero bytes. -/
theorem unknownOpcodeIsIgnored : Obligations.UnknownOpcodeIsIgnored :=
  fun op payload hop => ⟨(decode_eq_unknown_iff op payload).2 hop, fun s => ⟨exec_unknown op s, respBytes_of_empty rfl⟩⟩

end Sys2Proof
end

section
/-! Proofs of the reset family (70_reset_and_hazards.md): what the step of a power-on reset and the step of a soft reset each leave. -/

namespace Sys2Proof

open Machine

/-! ## The read phase before the request -/

/-- R51: the bytes of a read phase are a function of the three response registers. -/
theorem respBytes_congr {r q : Regs} (hlen : r.respLen = q.respLen) (h0 : r.resp0 = q.resp0) (h1 : r.resp1 = q.resp1) :
    respBytes r = respBytes q := by
  have hbyte : respByte r = respByte q := by
    funext j
    simp only [respByte, hlen, h0, h1]
  funext n
  rw [respBytes, respBytes, hbyte]

/-- R121: a step's conversion and timer tick come before its read phase and leave the response it finds. -/
theorem respBytes_timerEvent_conversionEvent (inp : Inputs) (s : State) :
    respBytes (timerEvent inp (conversionEvent inp s)).regs = respBytes s.regs :=
  respBytes_congr (by simp [timerEvent_keeps]) (by simp [timerEvent_keeps]) (by simp [timerEvent_keeps])

theorem beforeRequest_rdData {inp : Inputs} {n : Nat} (hread : inp.rdCount = some n) (s : State) :
    (beforeRequest inp s).out.rdData = respBytes s.regs n := by
  rw [beforeRequest, readPhase_rdData, hread, Option.elim_some, respBytes_timerEvent_conversionEvent]

/-- R98: no event before the request issues a conversion request. -/
theorem beforeRequest_adcStart (inp : Inputs) (s : State) : (beforeRequest inp s).out.adcStart = s.out.adcStart := by
  simp [beforeRequest, timerEvent_keeps]

/-! ## The two resets -/

/-- R132. -/
theorem step_of_rst {s t : State} (h : step s = .next t) (hrst : (sampleInputs s).rst = true) :
    t = powerOnReset (sampleInputs s) (beginStep s) := by
  obtain ⟨-, -, ⟨-, ht⟩ | ⟨hnot, -⟩⟩ := step_cases h
  · exact ht
  · exact absurd (hrst.symm.trans hnot) Bool.noConfusion

theorem requestEvent_of_requests {inp : Inputs} {i : Instr} (h : requests inp i) (s : State) :
    requestEvent inp s = exec i s := by
  obtain ⟨bytes, hreq, hdecode⟩ := h
  simp only [requestEvent, hreq, hdecode]

/-- The state `s` after SRST (R116): what `execSrst` makes of it. -/
def softReset (s : State) : State :=
  { s with regs := Regs.resetFor s.cfg, out := { s.out with sysRestart := true } }

theorem exec_srst (s : State) : exec .srst s = .next (softReset s) := rfl

/-- R116: the background slot does not run after a soft reset. -/
theorem backgroundSlot_softReset (s : State) : backgroundSlot (softReset s) = softReset s := if_pos rfl

/-- R42, R95: reset leaves mode Off and the software drive de-asserted, so that the pin is 0 with a trip in the step or without. -/
theorem heaterPinOf_softReset (wave : Bool) (s : State) : heaterPinOf wave (softReset s) = false := by
  cases htrip : s.out.tripNow <;> simp [heaterPinOf, softReset, Regs.resetFor, htrip]

/-- R133: the outputs of a soft reset's step follow its earlier events, a read phase among them. -/
theorem step_of_srst {s t : State} (h : step s = .next t) (hrst : (sampleInputs s).rst = false)
    (hreq : requests (sampleInputs s) .srst) :
    t = presentOutputs (sampleInputs s).cmpWave (softReset (beforeRequest (sampleInputs s) (beginStep s))) := by
  obtain ⟨-, -, ⟨hnot, -⟩ | ⟨-, u, hu, ht⟩⟩ := step_cases h
  · exact absurd (hrst.symm.trans hnot) Bool.noConfusion
  · rw [requestEvent_of_requests hreq, exec_srst] at hu
    rw [ht, ← Host.Outcome.next.inj hu, afterRequest, backgroundSlot_softReset]

/-! ## The obligation -/

/-- Settles O55: both steps write `Regs.resetFor` of the same parameters, and from those registers the arbiter presents the idle
outputs that a power-on reset presents. -/
theorem softResetEqualsPowerOnReset : Obligations.SoftResetEqualsPowerOnReset := by
  intro s u t v hcfg hs hsrst hu hurst hreq
  obtain rfl := step_of_rst hs hsrst
  obtain rfl := step_of_srst hu hurst hreq
  have hcfg' : (beforeRequest (sampleInputs u) (beginStep u)).cfg = (beginStep s).cfg := by simp [hcfg]
  refine ⟨congrArg Regs.resetFor hcfg', hcfg', rfl, rfl, ?pin, rfl, rfl, ?adcStart, fun n hread => ?rdData⟩
  case pin => exact heaterPinOf_softReset _ _
  case adcStart =>
    calc (beforeRequest (sampleInputs u) (beginStep u)).out.adcStart
      _ = (beginStep u).out.adcStart := beforeRequest_adcStart _ _
      _ = false := by rw [beginStep_out]; rfl
  case rdData =>
    calc (beforeRequest (sampleInputs u) (beginStep u)).out.rdData
      _ = respBytes (beginStep u).regs n := beforeRequest_rdData hread _
      _ = respBytes u.regs n := by rw [beginStep_regs]

end Sys2Proof
end

section
/-! Proofs that a request gives back the command it carries (30_encoding.md), under-length and with surplus payload too. -/

namespace Sys2Proof

open Machine

/-- R64: an under-length command is carried by its opcode alone, which decodes to it. -/
theorem decode_encode_of_underLength {i : Instr} (h : fullLength i = false) : decode (encode i) = .ok i := by
  cases i with
  | wrMode m => cases m <;> [rfl; cases h]
  | wrSp v => cases v <;> [rfl; cases h]
  | wrSens n => cases n <;> [rfl; cases h]
  | wrPwm d => cases d <;> [rfl; cases h]
  | wrMax v => cases v <;> [rfl; cases h]
  | _ => cases h

/-- Settles O3: the decoder reads the operand bytes of the format and no others. -/
theorem surplusPayloadIsIgnored : Obligations.SurplusPayloadIsIgnored :=
  fun _ extra hwf hfull => decode_encode_append hwf hfull extra

/-- Settles O1: a full-length request is one with no surplus payload, an under-length one is its opcode alone. -/
theorem decodeOfEncodeIsTheCommand : Obligations.DecodeOfEncodeIsTheCommand := by
  intro i hwf
  cases hfull : fullLength i
  · exact decode_encode_of_underLength hfull
  · simpa using decode_encode_append hwf hfull []

/-- Settles O6: each request evaluates to the row of the opcode map that its first byte names. -/
theorem writtenRequestsDecode : Obligations.WrittenRequestsDecode := by
  refine ⟨?_, ?_, ?_, ?_, ?_, ?_, ?_, ?_, ?_, ?_, ?_⟩
  all_goals rfl

end Sys2Proof
end

section
/-! Proofs about the configuration's and the ports' ranges (00_scope.md R7, 10_state.md R13): when a step completes. -/

namespace Sys2Proof

open Machine

/-- R13: a request in its port's range has an opcode byte, so that it decodes to a command, and every command completes. -/
theorem requestEvent_completes {c : Params} {inp : Inputs} (h : inp.inRange c = true) (s : State) :
    ∃ t, requestEvent inp s = .next t := by
  unfold requestEvent
  split
  · exact ⟨s, rfl⟩
  · rename_i bytes hreq
    cases bytes with
    | nil => simp [Inputs.inRange, hreq] at h
    | cons op payload => exact exec_completes (decodeOpcode op payload) s

theorem performEvents_completes {c : Params} {inp : Inputs} (h : inp.inRange c = true) (s : State) :
    ∃ t, performEvents inp s = .next t := by
  obtain ⟨u, hu⟩ := requestEvent_completes h (beforeRequest inp s)
  unfold performEvents
  split
  · exact ⟨_, rfl⟩
  · exact ⟨afterRequest inp u, by rw [hu]⟩

theorem step_of_inRange {s : State} (hlegal : s.cfg.legal = true) (hrange : (sampleInputs s).inRange s.cfg = true) :
    step s = performEvents (sampleInputs s) (beginStep s) := by
  rw [step, if_pos hlegal, if_pos hrange]

theorem step_completes {s : State} (hlegal : s.cfg.legal = true) (hrange : (sampleInputs s).inRange s.cfg = true) :
    ∃ t, step s = .next t :=
  step_of_inRange hlegal hrange ▸ performEvents_completes hrange (beginStep s)

/-- Settles O8: within the contract every event completes, and outside it `step` refuses. -/
theorem stepCompletesExactlyWithinItsContract : Obligations.StepCompletesExactlyWithinItsContract := by
  refine fun s => ⟨⟨?inContract, fun ⟨hlegal, hrange⟩ => step_completes hlegal hrange⟩, fun f => nomatch f⟩
  case inContract =>
    rintro ⟨t, ht⟩
    obtain ⟨hlegal, hrange, -⟩ := step_cases ht
    exact ⟨hlegal, hrange⟩

/-- Settles O7: a request that decodes to `i` runs `exec i`, which completes, and the step goes on from what it leaves. -/
theorem stepRunsTheDecodedCommand : Obligations.StepRunsTheDecodedCommand := by
  intro s bytes i hlegal hrange hrst hreq hdecode
  obtain ⟨t, ht⟩ := exec_completes i (beforeRequest (sampleInputs s) (beginStep s))
  have hrun := (requestEvent_of_requests ⟨bytes, hreq, hdecode⟩ _).trans ht
  simp only [step_of_inRange hlegal hrange, performEvents, hrst, Bool.false_eq_true, if_false, hrun, ht]

/-- Settles O9: each disjunct contradicts one of the ranges that a legal configuration keeps. -/
theorem illegalConfigurationIsRefused : Obligations.IllegalConfigurationIsRefused := by
  intro s hbad
  have hillegal : ¬ s.cfg.legal = true := by
    rw [legal_iff]
    rintro ⟨hk, hthr, hrest⟩
    rcases hbad with ⟨i, hi⟩ | ⟨i, hi⟩ | hbad
    · have := hk i
      omega
    · have := hthr i
      omega
    · omega
  exact if_neg hillegal

/-- Settles O10: each of the three forms fails `Inputs.inRange`. -/
theorem inputOutsideItsPortIsRefused : Obligations.InputOutsideItsPortIsRefused := by
  intro s hlegal hbad
  have hout : ¬ (sampleInputs s).inRange s.cfg = true := by
    rcases hbad with hrd | hreq | ⟨bytes, hreq, hlen⟩
    · simp [Inputs.inRange, hrd]
    · simp [Inputs.inRange, hreq]
    · simp [Inputs.inRange, hreq, hlen]
  rw [step, if_pos hlegal, if_neg hout]

end Sys2Proof
end

section
/-! Proofs of the invariants (10_state.md R41): they hold at reset, and each event of a step keeps them. -/

namespace Sys2Proof

open Machine

/-! ## The width of a register write -/

/-- The integrator and the output are clamped to 0..1000, which their registers hold uncut (R26, R27). -/
theorem toInt_ofInt_errorSum {v : Int} (h0 : 0 ≤ v) (h1 : v ≤ 1000) : (BitVec.ofInt 11 v).toInt = v := by
  rw [BitVec.toInt_ofInt, Int.bmod_eq_of_le (by omega) (by omega)]

theorem toNat_ofInt_output {v : Int} (h0 : 0 ≤ v) (h1 : v ≤ 1000) : ((BitVec.ofInt 16 v).toNat : Int) = v := by
  rw [BitVec.toNat_ofInt]
  omega

/-! ## The EMA step stays in its range -/

/-- R76: of an intermediate value up to `4095 * 2^K`, the output takes at least the part above `4095 * (2^K - 1)`. -/
theorem emaOutput_ge {k a : Nat} (ha : a ≤ 4095 * 2 ^ k) : a ≤ 4095 * (2 ^ k - 1) + emaOutput k a := by
  have hpos := Nat.two_pow_pos k
  obtain ⟨d, hd⟩ := Nat.exists_eq_add_of_le ha
  have hle : 4095 - d ≤ emaOutput k a := by
    refine (Nat.le_div_iff_mul_le hpos).2 (le_trans ?_ (Nat.le_add_right a _))
    have hmul : d ≤ d * 2 ^ k := Nat.le_mul_of_pos_right d hpos
    rw [Nat.sub_mul]
    generalize d * 2 ^ k = m at hmul ⊢
    omega
  omega

/-- R76. -/
theorem emaStep_fst_le {k acc x : Nat} (hk : 1 ≤ k) (hacc : acc ≤ 4095 * (2 ^ k - 1)) (hx : x ≤ 4095) :
    (emaStep k acc x).1 ≤ 4095 * (2 ^ k - 1) := by
  have hsum := emaStep_add hk acc x
  have hge := emaOutput_ge (acc_add_input_le hacc hx)
  rw [emaStep_snd] at hsum
  omega

/-- R41, R76: a conversion keeps each accumulator in its range. -/
theorem convertBatch_acc_le {b : Batch} {s : State} {i : Chan} (hlegal : s.cfg.legal = true)
    (hacc : (s.regs.acc.get i).toNat ≤ 4095 * (2 ^ s.cfg.emaK.get i - 1)) :
    ((convertBatch b s).regs.acc.get i).toNat ≤ 4095 * (2 ^ s.cfg.emaK.get i - 1) := by
  obtain ⟨hk, -⟩ := (legal_iff s.cfg).1 hlegal
  cases hsel : laneSelected b s.regs i
  · rw [(convertBatch_keeps_unselected hsel).2.1]
    exact hacc
  · rw [(convertBatch_toNat_of_acc_le hlegal hacc hsel).1]
    exact emaStep_fst_le (hk i).1 hacc (filterInput_le _ _ _)

/-! ## Each event keeps the invariants -/

/-- R41 at reset: every clause is about 0, and a legal TICK_DIV_M is above 0. -/
theorem good_resetFor {c : Params} (hlegal : c.legal = true) : (Regs.resetFor c).Good c := by
  obtain ⟨-, -, -, -, -, -, hdiv, -⟩ := (legal_iff c).1 hlegal
  exact
    { errorSum_bounds := by simp [Regs.resetFor]
      cmpReg_le := Nat.zero_le _
      lastOutput_eq := rfl
      swOut_off := fun _ => rfl
      acc_le := fun i => by simp [Regs.resetFor]
      tickDiv_lt := hdiv
      respLen_mem := .inl rfl }

theorem good_conversionEvent {s : State} (h : s.Good) (inp : Inputs) : (conversionEvent inp s).Good := by
  rcases conversionEvent_cases inp s with ⟨b, -, e⟩ | ⟨-, e⟩ <;> rw [e]
  · exact ⟨h.legal, { h.regs with acc_le := fun i => convertBatch_acc_le h.legal (h.regs.acc_le i) }⟩
  · exact h

/-- A control tick keeps the invariants: a trip de-asserts the drive with the mode, and the update's results are clamped. -/
theorem good_controlTick {s : State} (h : s.Good) : (controlTick s).Good := by
  rcases controlTick_cases s with ⟨-, e⟩ | ⟨-, -, e⟩ | ⟨-, -, e⟩ <;> rw [e]
  · exact ⟨h.legal, { h.regs with swOut_off := fun _ => rfl }⟩
  · rcases pidUpdate_cases s with ⟨-, e⟩ | ⟨-, err, sum, o, -, hsum, ho, e⟩ <;> rw [e]
    · exact ⟨h.legal, { h.regs with cmpReg_le := Nat.zero_le _, lastOutput_eq := rfl }⟩
    · obtain ⟨hs0, hs1⟩ := hsum ▸ pidIntegral_bounds s.cfg s.regs.errorSum.toInt err
      obtain ⟨ho0, ho1⟩ := ho ▸ pidOutput_bounds s.cfg sum err
      have ho' := toNat_ofInt_output ho0 ho1
      exact ⟨h.legal, { h.regs with
        errorSum_bounds := by
          rw [toInt_ofInt_errorSum hs0 hs1]
          exact ⟨hs0, hs1⟩
        cmpReg_le := by
          show (BitVec.ofInt 16 o).toNat ≤ 1000
          omega
        lastOutput_eq := rfl }⟩
  · exact h

theorem good_timerEvent {s : State} (h : s.Good) (inp : Inputs) : (timerEvent inp s).Good := by
  obtain ⟨-, -, -, -, -, -, hdiv, hdiv', -⟩ := (legal_iff s.cfg).1 h.legal
  have hlt := h.regs.tickDiv_lt
  rcases timerEvent_cases inp s with ⟨-, e⟩ | ⟨-, e⟩ <;> rw [e]
  · rcases timerTick_cases s with ⟨-, e⟩ | ⟨hne, e⟩ <;> rw [e]
    · exact good_controlTick ⟨h.legal, { h.regs with tickDiv_lt := hdiv }⟩
    · refine ⟨h.legal, { h.regs with tickDiv_lt := ?_ }⟩
      simp only [BitVec.toNat_ofNat]
      omega
  · exact h

theorem good_readPhase {s : State} (h : s.Good) (inp : Inputs) : (readPhase inp s).Good :=
  ⟨by simpa using h.legal, by simpa using h.regs⟩

theorem good_beforeRequest {s : State} (h : s.Good) (inp : Inputs) : (beforeRequest inp s).Good :=
  good_readPhase (good_timerEvent (good_conversionEvent h inp) inp) inp

/-- A command keeps the invariants: it writes a response of length 0 or 2, de-asserts the drive where it writes the mode, or resets. -/
theorem good_exec {i : Instr} {s t : State} (hs : s.Good) (h : exec i s = .next t) : t.Good := by
  rcases exec_cases h with ⟨-, v, rfl⟩ | ⟨-, -, rfl⟩ | ⟨m, mode, -, -, rfl⟩ | ⟨v, -, rfl⟩ | ⟨n, -, -, rfl⟩ | ⟨d, -, rfl⟩ |
    ⟨v, -, rfl⟩ | ⟨-, rfl⟩
  case inl => exact ⟨hs.legal, { hs.regs with respLen_mem := .inr rfl }⟩
  case inr.inr.inl => exact ⟨hs.legal, { hs.regs with respLen_mem := .inl rfl, swOut_off := fun _ => rfl }⟩
  case inr.inr.inr.inr.inr.inr.inr => exact ⟨hs.legal, good_resetFor hs.legal⟩
  all_goals exact ⟨hs.legal, { hs.regs with respLen_mem := .inl rfl }⟩

theorem good_requestEvent {inp : Inputs} {s t : State} (hs : s.Good) (h : requestEvent inp s = .next t) : t.Good := by
  rcases requestEvent_cases h with ⟨-, rfl⟩ | ⟨i, -, hexec⟩
  · exact hs
  · exact good_exec hs hexec

theorem good_backgroundPass {s : State} (h : s.Good) : (backgroundPass s).Good := by
  rcases backgroundPass_cases s with ⟨-, e⟩ | ⟨-, hm, e⟩ | ⟨-, -, e⟩ | ⟨-, -, e⟩ <;> rw [e]
  · exact h
  · exact ⟨h.legal, { h.regs with swOut_off := fun hne => absurd hm hne }⟩
  · exact ⟨h.legal, { h.regs with swOut_off := fun _ => rfl }⟩
  · exact ⟨h.legal, { h.regs with }⟩

theorem good_backgroundSlot {s : State} (h : s.Good) : (backgroundSlot s).Good := by
  rcases backgroundSlot_cases s with ⟨-, e⟩ | ⟨-, e⟩ <;> rw [e]
  · exact h
  · have hp := good_backgroundPass h
    rcases conversionRequest_cases (backgroundPass s) with ⟨-, e⟩ | ⟨-, e⟩ <;> rw [e]
    · exact hp
    · exact ⟨hp.legal, { hp.regs with }⟩

/-! ## The obligations -/

/-- Settles O57: REFCFG is legal, and a legal configuration resets to good registers. -/
theorem resetStateIsGood : Obligations.ResetStateIsGood :=
  have hreset : ∀ c : Params, c.legal = true → (State.resetFor c).Good := fun _ hlegal => ⟨hlegal, good_resetFor hlegal⟩
  ⟨hreset, hreset Params.refcfg (by decide)⟩

/-- Settles O58: each event of a step keeps the invariants, and a power-on reset establishes them. -/
theorem stepKeepsTheInvariants : Obligations.StepKeepsTheInvariants := by
  intro s t hs h
  have hbegin : (beginStep s).Good := ⟨by simpa using hs.legal, by simpa using hs.regs⟩
  obtain ⟨-, -, ⟨-, rfl⟩ | ⟨-, u, hu, rfl⟩⟩ := step_cases h
  · exact ⟨hbegin.legal, good_resetFor hbegin.legal⟩
  · have hslot := good_backgroundSlot (good_requestEvent (good_beforeRequest hbegin _) hu)
    exact ⟨hslot.legal, hslot.regs⟩

end Sys2Proof
end

section
/-! Proofs of the filter bank's obligations (40_sensor_conditioning.md): the lanes a conversion captures, the range and the
fixed points of the EMA step, and its convergence. -/

namespace Sys2Proof

open Machine

/-! ## The EMA step as a map of the accumulator -/

/-- What a constant input `x` makes of a lane's accumulator (R75). -/
def emaAccStep (k x acc : Nat) : Nat := (emaStep k acc x).1

theorem emaAccStep_add {k : Nat} (hk : 1 ≤ k) (x acc : Nat) : emaAccStep k x acc + emaOutput k (acc + x) = acc + x :=
  emaStep_add hk acc x

/-- The band's middle `x * (2^K - 1)` and the input sum to `x * 2^K`. -/
theorem mul_two_pow_eq (k x : Nat) : x * 2 ^ k = x * (2 ^ k - 1) + x := by
  rw [Nat.mul_sub_one, Nat.sub_add_cancel (Nat.le_mul_of_pos_right x (Nat.two_pow_pos k))]

/-- R77: the output is `x` exactly when the rounded quotient is. -/
theorem emaOutput_eq_iff {k a x : Nat} :
    emaOutput k a = x ↔ x * 2 ^ k ≤ a + 2 ^ (k - 1) ∧ a + 2 ^ (k - 1) < (x + 1) * 2 ^ k := by
  rw [emaOutput, Nat.div_eq_iff (Nat.two_pow_pos k)]
  have := Nat.two_pow_pos k
  rw [Nat.succ_mul]
  omega

/-- R77: the output is `x` exactly in the band around the middle. -/
theorem emaOutput_add_eq_iff {k : Nat} (hk : 1 ≤ k) (acc x : Nat) : emaOutput k (acc + x) = x ↔
    x * (2 ^ k - 1) ≤ acc + 2 ^ (k - 1) ∧ acc + 1 ≤ x * (2 ^ k - 1) + 2 ^ (k - 1) := by
  have hhalf := Nat.two_pow_pred_add_two_pow_pred hk
  rw [emaOutput_eq_iff, Nat.succ_mul, mul_two_pow_eq]
  omega

/-- The accumulator is fixed exactly when the output returns the input. -/
theorem emaAccStep_eq_iff {k : Nat} (hk : 1 ≤ k) (x acc : Nat) : emaAccStep k x acc = acc ↔ emaOutput k (acc + x) = x := by
  have := emaAccStep_add hk x acc
  omega

theorem emaOutput_mono (k : Nat) {a b : Nat} (h : a ≤ b) : emaOutput k a ≤ emaOutput k b :=
  Nat.div_le_div_right (Nat.add_le_add_right h _)

/-- The output grows no faster than its argument. -/
theorem emaOutput_add_le (k a d : Nat) : emaOutput k (a + d) ≤ emaOutput k a + d := by
  have hpos := Nat.two_pow_pos k
  have hmul : d ≤ d * 2 ^ k := Nat.le_mul_of_pos_right d hpos
  calc (a + d + 2 ^ (k - 1)) / 2 ^ k
    _ ≤ (a + 2 ^ (k - 1) + d * 2 ^ k) / 2 ^ k := Nat.div_le_div_right (by omega)
    _ = (a + 2 ^ (k - 1)) / 2 ^ k + d := Nat.add_mul_div_right _ _ hpos

/-- The accumulator's step keeps the order. -/
theorem emaAccStep_mono {k : Nat} (hk : 1 ≤ k) (x : Nat) {a b : Nat} (h : a ≤ b) : emaAccStep k x a ≤ emaAccStep k x b := by
  obtain ⟨d, rfl⟩ := Nat.exists_eq_add_of_le h
  have ha := emaAccStep_add hk x a
  have hb := emaAccStep_add hk x (a + d)
  have hgrow := emaOutput_add_le k (a + x) d
  rw [Nat.add_right_comm] at hb
  omega

/-- A step moves the accumulator towards the middle of the band, which it fixes, and not past it. -/
theorem emaAccStep_between {k : Nat} (hk : 1 ≤ k) (x acc : Nat) :
    (acc ≤ emaAccStep k x acc ∧ emaAccStep k x acc ≤ x * (2 ^ k - 1)) ∨
    (x * (2 ^ k - 1) ≤ emaAccStep k x acc ∧ emaAccStep k x acc ≤ acc) := by
  have hpos := Nat.two_pow_pos (k - 1)
  have hmiddle : emaOutput k (x * (2 ^ k - 1) + x) = x := (emaOutput_add_eq_iff hk _ x).2 (by omega)
  have hfixed := (emaAccStep_eq_iff hk x _).2 hmiddle
  have hsum := emaAccStep_add hk x acc
  rcases Nat.le_total acc (x * (2 ^ k - 1)) with hle | hle
  · have houtput := emaOutput_mono k (Nat.add_le_add_right hle x)
    have hstep := emaAccStep_mono hk x hle
    omega
  · have houtput := emaOutput_mono k (Nat.add_le_add_right hle x)
    have hstep := emaAccStep_mono hk x hle
    omega

/-- R77: the accumulator reaches a fixed point, since until then each step brings it nearer to the middle of the band. -/
theorem exists_iterate_emaAccStep_fixed {k : Nat} (hk : 1 ≤ k) (x acc : Nat) :
    ∃ n, emaAccStep k x ((emaAccStep k x)^[n] acc) = (emaAccStep k x)^[n] acc := by
  by_cases hfix : emaAccStep k x acc = acc
  · exact ⟨0, hfix⟩
  · obtain ⟨n, hn⟩ := exists_iterate_emaAccStep_fixed hk x (emaAccStep k x acc)
    exact ⟨n + 1, hn⟩
termination_by (acc - x * (2 ^ k - 1)) + (x * (2 ^ k - 1) - acc)
decreasing_by
  have hbetween := emaAccStep_between hk x acc
  omega

/-! ## A lane under one batch, conversion after conversion -/

/-- R78: under one batch, held, a selected lane's accumulator follows the EMA step alone, in its range; its parameters and its
selection are not written. -/
theorem iterate_convertBatch {b : Batch} {s : State} {i : Chan} (hlegal : s.cfg.legal = true)
    (hacc : (s.regs.acc.get i).toNat ≤ 4095 * (2 ^ s.cfg.emaK.get i - 1)) (hsel : laneSelected b s.regs i = true) (m : Nat) :
    ((convertBatch b)^[m] s).cfg = s.cfg ∧ laneSelected b ((convertBatch b)^[m] s).regs i = true ∧
    (((convertBatch b)^[m] s).regs.acc.get i).toNat ≤ 4095 * (2 ^ s.cfg.emaK.get i - 1) ∧
    (((convertBatch b)^[m] s).regs.acc.get i).toNat =
      (emaAccStep (s.cfg.emaK.get i) (filterInput s.cfg i (b.data.get i)))^[m] (s.regs.acc.get i).toNat := by
  induction m with
  | zero => exact ⟨rfl, hsel, hacc, rfl⟩
  | succ m ih =>
    obtain ⟨hcfg, hsel', hacc', hvalue⟩ := ih
    rw [Function.iterate_succ_apply', Function.iterate_succ_apply', ← hvalue]
    generalize (convertBatch b)^[m] s = u at hcfg hsel' hacc'
    rw [← hcfg] at hlegal hacc' ⊢
    exact ⟨rfl, hsel', convertBatch_acc_le hlegal hacc', (convertBatch_toNat_of_acc_le hlegal hacc' hsel').1⟩

theorem iterate_convertBatch_filt {b : Batch} {s : State} {i : Chan} (hlegal : s.cfg.legal = true)
    (hacc : (s.regs.acc.get i).toNat ≤ 4095 * (2 ^ s.cfg.emaK.get i - 1)) (hsel : laneSelected b s.regs i = true) (m : Nat) :
    (((convertBatch b)^[m + 1] s).regs.filt.get i).toNat = (emaStep (s.cfg.emaK.get i)
      ((emaAccStep (s.cfg.emaK.get i) (filterInput s.cfg i (b.data.get i)))^[m] (s.regs.acc.get i).toNat)
      (filterInput s.cfg i (b.data.get i))).2 := by
  obtain ⟨hcfg, hsel', hacc', hvalue⟩ := iterate_convertBatch hlegal hacc hsel m
  rw [Function.iterate_succ_apply', ← hvalue]
  generalize (convertBatch b)^[m] s = u at hcfg hsel' hacc'
  rw [← hcfg] at hlegal hacc' ⊢
  exact (convertBatch_toNat_of_acc_le hlegal hacc' hsel').2

/-! ## The obligations -/

/-- Settles O32: a lane is captured when it is selected and kept when it is not; the other registers are not written. -/
theorem conversionCapturesTheSelectedLanes : Obligations.ConversionCapturesTheSelectedLanes := by
  refine fun b s => ⟨fun i hvalid hskip => ?captured, fun i hnot => ?kept, rfl⟩
  case captured => rw [convertBatch_raw_get, if_pos ((laneSelected_iff b s.regs i).2 ⟨hvalid, hskip⟩)]
  case kept =>
    refine convertBatch_keeps_unselected (Bool.eq_false_iff.2 fun hsel => ?_)
    obtain ⟨hvalid, hskip⟩ := (laneSelected_iff b s.regs i).1 hsel
    rcases hnot with hnot | hnot
    · exact absurd (hvalid.symm.trans hnot) Bool.noConfusion
    · exact absurd (hnot.symm.trans hskip) Bool.noConfusion

/-- Settles O34: the two conditions of R74's substitution, each denied in turn. -/
theorem lowPassClampSubstitutesZero : Obligations.LowPassClampSubstitutesZero :=
  fun _ _ _ => ⟨fun hlpe hthr => if_pos ⟨hlpe, hthr⟩, fun hlpe => if_neg (by simp [hlpe]), fun hthr => if_neg (by omega)⟩

/-- Settles O35: the first part is arithmetic on R75; for the second, a lane reads and writes its accumulator through its width alone. -/
theorem emaStaysInRange : Obligations.EmaStaysInRange := by
  refine ⟨fun k acc x hk hx hacc => ?range, fun b s i hlegal hvalid hskip => ?width⟩
  case range =>
    have hsum := acc_add_input_le hacc hx
    refine ⟨emaStep_fst_le hk hacc hx, emaOutput_le hk hsum, ?_⟩
    have hhalf := Nat.two_pow_pred_add_two_pow_pred hk
    have hpos := Nat.two_pow_pos (k - 1)
    rw [Nat.pow_add]
    omega
  case width =>
    obtain ⟨hk, -⟩ := (legal_iff s.cfg).1 hlegal
    have hsel := (laneSelected_iff b s.regs i).2 ⟨hvalid, hskip⟩
    refine ⟨?_, fun acc hsame => ?_⟩
    · rw [convertBatch_acc_get, if_pos hsel, toNat_accStore (hk i).2]
      exact Nat.mod_lt _ (Nat.two_pow_pos _)
    · have hstep : laneStep s.cfg b { s.regs with acc := acc } i = laneStep s.cfg b s.regs i :=
        congrArg (fun a => emaStep (s.cfg.emaK.get i) a _) hsame
      have hsel' : laneSelected b { s.regs with acc := acc } i = true := hsel
      simp only [convertBatch_acc_get, convertBatch_filt_get, hsel, hsel', hstep, if_true, and_self]

/-- Settles O37: the bounds of the rounded quotient are those of the band, and an output equal to the input leaves the accumulator. -/
theorem emaFixedPointsAreTheBand : Obligations.EmaFixedPointsAreTheBand :=
  fun _ acc x hk => ⟨emaOutput_add_eq_iff hk acc x, (emaAccStep_eq_iff hk x acc).2⟩

/-- Settles O38: the lane's accumulator reaches a fixed point of the EMA step, where the output is the input, and stays there. -/
theorem emaConvergesToAConstantInput : Obligations.EmaConvergesToAConstantInput := by
  intro b s i hlegal hacc hvalid hskip
  obtain ⟨hk, -⟩ := (legal_iff s.cfg).1 hlegal
  have hsel := (laneSelected_iff b s.regs i).2 ⟨hvalid, hskip⟩
  obtain ⟨n, hfixed⟩ :=
    exists_iterate_emaAccStep_fixed (hk i).1 (filterInput s.cfg i (b.data.get i)) (s.regs.acc.get i).toNat
  refine ⟨n, fun m hm => ?_⟩
  obtain ⟨d, rfl⟩ := Nat.exists_eq_add_of_le' hm
  rw [iterate_convertBatch_filt hlegal hacc hsel, Function.iterate_add_apply, Function.iterate_fixed hfixed, emaStep_snd,
    (emaAccStep_eq_iff (hk i).1 _ _).1 hfixed]

end Sys2Proof
end

section
/-! Proofs about single commands (44_cmd_read.md, 45_cmd_write.md): what each read answers and each write accepts; and about the steps
of the two resets (70_reset_and_hazards.md). -/

namespace Sys2Proof

open Machine Claims

/-! ## Read commands -/

/-- R25: bit 0 is the constant 1, bit 1 is the trip flag. -/
theorem toNat_statusWord (r : Regs) : (statusWord r).toNat = if r.trip then 3 else 1 := by
  unfold statusWord
  cases r.trip <;> rfl

/-- R102, for the instruction of channel `c`. -/
theorem answers_of_readFilt {i : Instr} {c : Chan} {s : State} (h : exec i s = .next (readFilt c s)) :
    Answers i s (s.regs.filt.get c).toNat :=
  answers_of_respond_zext16 (by decide) h

/-- R105. -/
theorem answers_rdMode (s : State) : Answers .rdMode s (modeCode s.regs.heaterMode).toNat :=
  answers_of_respond_zext16 (by decide) rfl

/-- R108: the two sources of RD_PWM. -/
theorem answers_rdPwm_of_pid {s : State} (h : s.regs.heaterMode = .pid) : Answers .rdPwm s s.regs.cmpReg.toNat :=
  answers_of_respond (by rw [exec, execRdPwm, if_pos h])

theorem answers_rdPwm_of_ne_pid {s : State} (h : s.regs.heaterMode ≠ .pid) : Answers .rdPwm s s.regs.pwmDuty.toNat :=
  answers_of_respond_zext16 (by decide) (by rw [exec, execRdPwm, if_neg h])

/-- R50: a command that is no read and no reset declares the response empty and keeps its two bytes. -/
theorem exec_empties_response {i : Instr} {s t : State} (hread : isRead i = false) (hsrst : i ≠ .srst) (h : exec i s = .next t) :
    t.regs.respLen = 0 ∧ t.regs.resp0 = s.regs.resp0 ∧ t.regs.resp1 = s.regs.resp1 := by
  rcases exec_cases h with ⟨hread', _⟩ | ⟨_, _, rfl⟩ | ⟨m, mode, _, _, rfl⟩ | ⟨v, _, rfl⟩ | ⟨n, _, _, rfl⟩ | ⟨d, _, rfl⟩ |
    ⟨v, _, rfl⟩ | ⟨hsrst', _⟩
  · exact absurd (hread.symm.trans hread') Bool.false_ne_true
  on_goal 7 => exact absurd hsrst' hsrst
  all_goals exact ⟨rfl, rfl, rfl⟩

/-- Settles O13: each of the eight commands is a read whose arm is `readFilt` of its channel. -/
theorem filteredReadsAnswerTheOutput : Obligations.FilteredReadsAnswerTheOutput := by
  refine fun s payload => ⟨?_, ?_, ?_, ?_, ?_, ?_, ?_, ?_⟩
  all_goals exact ⟨decode_of_isRead rfl rfl, answers_of_readFilt rfl⟩

/-- Settles O15: the response is the status word. -/
theorem statusReadAnswersBoardOnAndTrip : Obligations.StatusReadAnswersBoardOnAndTrip :=
  fun s _ => ⟨decode_of_isRead rfl rfl, toNat_statusWord s.regs ▸ answers_of_respond rfl⟩

/-- Settles O16: the response is the mode's code. -/
theorem modeReadAnswersTheCode : Obligations.ModeReadAnswersTheCode := by
  intro s payload
  have hcode := answers_rdMode s
  refine ⟨decode_of_isRead rfl rfl, fun hmode => ?_, fun hmode => ?_, fun hmode => ?_⟩
  all_goals
    rw [hmode] at hcode
    exact hcode

/-- Settles O19: a trip leaves mode Off, where the duty is answered; the bound is the invariant's. -/
theorem pwmReadAnswersCompareOrDuty : Obligations.PwmReadAnswersCompareOrDuty :=
  fun _ _ => ⟨decode_of_isRead rfl rfl, answers_rdPwm_of_pid, answers_rdPwm_of_ne_pid,
    answers_rdPwm_of_ne_pid HeaterMode.noConfusion, fun hgood _ => hgood.regs.cmpReg_le⟩

/-- Settles O21: a read answers a register or a parameter that both states share; the other commands keep the response bytes or
reset them. -/
theorem responsesHideInternalRegisters : Obligations.ResponsesHideInternalRegisters := by
  intro i s acc errorSum lastOutput pwmCounter swOut tickDiv bgWake startReq skip t u ht hu
  have hwrite (hread : isRead i = false) (hsrst : i ≠ .srst) :
      t.regs.respLen = u.regs.respLen ∧ t.regs.resp0 = u.regs.resp0 ∧ t.regs.resp1 = u.regs.resp1 := by
    obtain ⟨htlen, ht0, ht1⟩ := exec_empties_response hread hsrst ht
    obtain ⟨hulen, hu0, hu1⟩ := exec_empties_response hread hsrst hu
    exact ⟨htlen.trans hulen.symm, ht0.trans hu0.symm, ht1.trans hu1.symm⟩
  cases i with
  | wrMode _ | wrSp _ | wrSens _ | wrPwm _ | wrMax _ | unknown _ => exact hwrite rfl Instr.noConfusion
  | _ =>
    cases ht
    cases hu
    exact ⟨rfl, rfl, rfl⟩

/-! ## Write commands -/

/-- R111: the bytes of the three modes are their codes. -/
theorem modeOfByte_eq_some_iff {m : Byte} {mode : HeaterMode} :
    modeOfByte m = some mode ↔ m.toNat = (modeCode mode).toNat := by
  unfold modeOfByte
  split <;> cases mode <;> simp_all [modeCode]

theorem toNat_modeCode_le (mode : HeaterMode) : (modeCode mode).toNat ≤ 2 := by
  cases mode <;> decide

theorem modeOfByte_of_gt {m : Byte} (h : 2 < m.toNat) : modeOfByte m = none := by
  refine Option.eq_none_iff_forall_ne_some.2 fun mode hmode => ?_
  have hcode := modeOfByte_eq_some_iff.1 hmode
  have hle := toNat_modeCode_le mode
  omega

/-- R111: an accepted mode byte. -/
theorem exec_wrMode_of_mode {m : Byte} {mode : HeaterMode} (h : modeOfByte m = some mode) (s : State) :
    exec (.wrMode (some m)) s =
      .next { s with regs := { s.regs with respLen := 0, heaterMode := mode, trip := false, swOut := false } } := by
  simp [exec, execWrMode, h]

theorem exec_wrMode_of_gt {m : Byte} (h : 2 < m.toNat) (s : State) : exec (.wrMode (some m)) s = .next (emptied s) := by
  simp [exec, execWrMode, modeOfByte_of_gt h, respondEmpty, emptied]

/-- R114, R115: every value is written. -/
theorem exec_wrPwm_some (d : Byte) (s : State) :
    exec (.wrPwm (some d)) s = .next { s with regs := { s.regs with respLen := 0, pwmDuty := d } } := rfl

theorem exec_wrMax_some (v : Word) (s : State) :
    exec (.wrMax (some v)) s = .next { s with regs := { s.regs with respLen := 0, maxTemp := v } } := rfl

/-- R29: the PWM counter wraps at 256. -/
theorem toNat_add_one (n : Byte) : (n + 1).toNat = (n.toNat + 1) % 256 := by
  rw [BitVec.toNat_add]
  rfl

/-- R97: a pass in PWM mode counts, then compares the count it has reached with the duty. -/
theorem backgroundPass_of_pwm {s : State} (hwake : s.regs.bgWake = true) (hmode : s.regs.heaterMode = .pwm) :
    (backgroundPass s).regs.pwmCounter.toNat = (s.regs.pwmCounter.toNat + 1) % 256 ∧
    ((backgroundPass s).regs.swOut = true ↔ (s.regs.pwmCounter.toNat + 1) % 256 < s.regs.pwmDuty.toNat) := by
  simp only [backgroundPass, hwake, hmode, if_true, decide_eq_true_iff, toNat_add_one, true_and]

/-- Settles O22: the accepted bytes are the three codes, and a byte above 2 is none of them. -/
theorem modeWriteSelectsTheMode : Obligations.ModeWriteSelectsTheMode :=
  fun s => ⟨fun _ _ hcode => exec_wrMode_of_mode (modeOfByte_eq_some_iff.2 hcode) s, fun _ hgt => exec_wrMode_of_gt hgt s,
    exec_of_underLength rfl s, rfl, rfl, rfl⟩

/-- Settles O25: the write sets the duty alone, so that the next pass compares with it and RD_PWM in PID mode does not read it. -/
theorem dutyWriteAcceptsEveryByte : Obligations.DutyWriteAcceptsEveryByte := by
  refine fun s => ⟨fun d rest => ⟨?decoded, exec_wrPwm_some d s⟩, ?underLength, exec_of_underLength rfl s, fun d t ht => ?after⟩
  case decoded => rw [decode_wrPwm, imm8_cons]
  case underLength => rw [decode_wrPwm, imm8_nil]
  case after =>
    have hpass := backgroundPass_of_pwm (s := t)
    obtain rfl := Host.Outcome.next.inj ht
    exact ⟨fun hwake hmode => (hpass hwake hmode).2, fun hmode => answers_rdPwm_of_pid hmode⟩

/-- Settles O26: the write sets the threshold alone, and the comparator reads it. -/
theorem thresholdWriteKeepsTheTrip : Obligations.ThresholdWriteKeepsTheTrip := by
  refine fun s => ⟨fun p0 p1 rest => ?accepted, fun payload hlen => ?tooShort, exec_of_underLength rfl s, fun v t ht => ?after⟩
  case accepted =>
    refine ⟨wordOfBytes p0 p1, toNat_wordOfBytes p0 p1, ?_, exec_wrMax_some _ s⟩
    rw [decode_wrMax, imm16_cons_cons]
  case tooShort => rw [decode_wrMax, (imm16_eq_none_iff payload).2 hlen]
  case after =>
    obtain rfl := Host.Outcome.next.inj ht
    exact overTemp_iff _ _

/-! ## The resets -/

/-- Settles O27: the step ends in the soft reset of what its earlier events left, which issued no conversion request. -/
theorem softResetRestartsTheBlock : Obligations.SoftResetRestartsTheBlock := by
  refine ⟨fun payload => rfl, exec_srst, fun s t hrst hreq h => ?step⟩
  obtain rfl := step_of_srst h hrst hreq
  refine ⟨?regs, rfl, ?adcStart, heaterPinOf_softReset _ _⟩
  case regs => exact congrArg Regs.resetFor (by simp)
  case adcStart =>
    calc (beforeRequest (sampleInputs s) (beginStep s)).out.adcStart
      _ = (beginStep s).out.adcStart := beforeRequest_adcStart _ _
      _ = false := by rw [beginStep_out]; rfl

/-- Settles O54: the step is `powerOnReset`, whose outputs are idle but for the zero bytes of a read phase. -/
theorem powerOnResetStep : Obligations.PowerOnResetStep := by
  intro s t h hrst
  obtain rfl := step_of_rst h hrst
  refine ⟨congrArg Regs.resetFor (beginStep_cfg s), rfl, rfl, rfl, rfl, rfl, fun n hread => ?rdData⟩
  simp [hread]

end Sys2Proof
end

section
/-! Proofs of the monitor's and the controller's functions (41_safety_monitor.md, 42_pid.md): the comparator, and one PID update. -/

namespace Sys2Proof

open Machine Claims

/-! ## The comparator -/

theorem overTemp_of_maxTemp_zero {c : Params} {r : Regs} (h : r.maxTemp = 0) : overTemp c r = false :=
  Bool.eq_false_iff.2 fun htrip => ((overTemp_iff c r).1 htrip).1 (congrArg BitVec.toNat h)

/-! ## One PID update -/

/-- R9 in the statements' terms. -/
theorem clamp_eq_max_min {v lo hi : Int} (h : lo ≤ hi) : clamp v lo hi = max lo (min hi v) := by
  unfold clamp
  split
  · omega
  · split <;> omega

/-- Division by a positive number rounds toward minus infinity (R9, D14). -/
theorem asr_eq_fdiv (v : Int) (n : Nat) : asr v n = Int.fdiv v (2 ^ n) :=
  (Int.fdiv_eq_ediv_of_nonneg v (by positivity)).symm

theorem pidIntegral_eq (c : Params) (errorSum e : Int) :
    pidIntegral c errorSum e = max 0 (min 1000 (errorSum + Int.fdiv e (2 ^ c.iShift))) := by
  rw [pidIntegral, clamp_eq_max_min (by decide), asr_eq_fdiv]
  rfl

theorem pidOutput_eq (c : Params) (errorSum e : Int) :
    pidOutput c errorSum e = max 0 (min 1000 ((c.pGain : Int) * e + errorSum)) :=
  clamp_eq_max_min (by decide)

theorem readingInRange_iff (c : Params) (reading : Nat) :
    readingInRange c reading = true ↔ c.minAdc ≤ reading ∧ reading ≤ c.maxAdc := by
  simp [readingInRange]

/-- R89 to R91: a PID update with the reading in range, its clamped results held uncut by their registers. -/
theorem pidUpdate_of_inRange {s : State} {r e sum : Int} (hr : r = ((s.regs.raw.get s.regs.controlSensor.toFin).toNat : Int))
    (hmin : (s.cfg.minAdc : Int) ≤ r) (hmax : r ≤ (s.cfg.maxAdc : Int)) (he : e = (s.regs.setPoint.toNat : Int) - r)
    (hsum : sum = max 0 (min 1000 (s.regs.errorSum.toInt + Int.fdiv e (2 ^ s.cfg.iShift)))) :
    ∃ (es : BitVec 11) (o : Word), es.toInt = sum ∧
      (o.toNat : Int) = max 0 (min 1000 ((s.cfg.pGain : Int) * e + sum)) ∧
      pidUpdate s = { s with regs := { s.regs with errorSum := es, lastOutput := o, cmpReg := o } } := by
  subst hr
  rcases pidUpdate_cases s with ⟨hout, -⟩ | ⟨-, e', sum', o, he', hsum', ho, hupdate⟩
  · have hin := (readingInRange_iff s.cfg (controlReading s.regs)).2 ⟨Int.ofNat_le.1 hmin, Int.ofNat_le.1 hmax⟩
    exact absurd (hin.symm.trans hout) Bool.noConfusion
  · obtain rfl : e' = e := he'.trans he.symm
    obtain rfl : sum' = sum := by rw [hsum', hsum, pidIntegral_eq]
    obtain ⟨hs0, hs1⟩ := hsum' ▸ pidIntegral_bounds s.cfg s.regs.errorSum.toInt e'
    obtain ⟨ho0, ho1⟩ := ho ▸ pidOutput_bounds s.cfg sum' e'
    refine ⟨_, _, toInt_ofInt_errorSum hs0 hs1, ?_, hupdate⟩
    rw [toNat_ofInt_output ho0 ho1, ho, pidOutput_eq]

/-- R88. -/
theorem pidUpdate_of_outOfRange {s : State} (h : (s.regs.raw.get s.regs.controlSensor.toFin).toNat < s.cfg.minAdc ∨
    s.cfg.maxAdc < (s.regs.raw.get s.regs.controlSensor.toFin).toNat) :
    pidUpdate s = { s with regs := { s.regs with lastOutput := 0, cmpReg := 0 } } := by
  rcases pidUpdate_cases s with ⟨-, hupdate⟩ | ⟨hin, -⟩
  · exact hupdate
  · obtain ⟨hmin, hmax⟩ := (readingInRange_iff s.cfg (controlReading s.regs)).1 hin
    rw [controlReading] at hmin hmax
    omega

theorem controlTick_of_pid {s : State} (htrip : overTemp s.cfg s.regs = false) (hmode : s.regs.heaterMode = .pid) :
    controlTick s = pidUpdate s := by
  rw [controlTick, if_neg (by simp [htrip]), if_pos hmode]

/-- Settles O45: the control tick is then a PID update with the reading in range. -/
theorem pidUpdateIsExact : Obligations.PidUpdateIsExact := by
  intro s htrip hmode r e sum hr hmin hmax he hsum
  rw [controlTick_of_pid htrip hmode]
  exact pidUpdate_of_inRange hr hmin hmax he hsum

/-- Settles O46: the control tick is then a PID update with the reading out of range. -/
theorem readingOutOfRangeForcesZeroOutput : Obligations.ReadingOutOfRangeForcesZeroOutput := by
  intro s htrip hmode hout
  rw [controlTick_of_pid htrip hmode]
  exact pidUpdate_of_outOfRange hout

end Sys2Proof
end

section
/-! What a step without a reset does (60_exceptions.md R121), said once for each of its phases: the events before the request, the request,
the background slot. The obligations on whole steps follow from it below. -/

namespace Sys2Proof

open Machine Claims

/-! ## Before the request: conversion, timer tick, read phase -/

/-- Sampling the ports moves no register, so that the conversion is that of the state before the step. -/
theorem conversionEvent_beginStep_regs (inp : Inputs) (s : State) :
    (conversionEvent inp (beginStep s)).regs = (conversionEvent inp s).regs := by
  unfold conversionEvent
  cases inp.conv <;> simp [convertBatch]

/-- R72, R73: the readings that the step's control tick finds. -/
theorem conversionEvent_raw_get (inp : Inputs) (s : State) (i : Chan) :
    (conversionEvent inp s).regs.raw.get i = readingUsed inp s i := by
  rcases conversionEvent_cases inp s with ⟨b, hconv, e⟩ | ⟨hconv, e⟩ <;> simp only [e, readingUsed, hconv]
  simp only [convertBatch_raw_get, laneSelected_iff]

/-- R80: a conversion wakes the background sequencer. -/
theorem conversionEvent_bgWake (inp : Inputs) (s : State) : (conversionEvent inp s).regs.bgWake = true ↔ PassDue inp s := by
  rcases conversionEvent_cases inp s with ⟨b, hconv, e⟩ | ⟨hconv, e⟩ <;> simp [e, PassDue, hconv]

/-- The divider after a step's timer event (R81): it counts modulo TICK_DIV_M when the timer ticks. -/
def dividerAfter (inp : Inputs) (s : State) : Word :=
  if inp.tick then
    if s.regs.tickDiv.toNat + 1 = s.cfg.tickDivM then 0 else BitVec.ofNat 16 (s.regs.tickDiv.toNat + 1)
  else s.regs.tickDiv

theorem dividerAfter_of_no_tick {inp : Inputs} (h : inp.tick = false) (s : State) : dividerAfter inp s = s.regs.tickDiv := by
  simp [dividerAfter, h]

theorem dividerAfter_of_due {inp : Inputs} {s : State} (h : controlTickDue inp s) : dividerAfter inp s = 0 := by
  obtain ⟨htick, hdiv⟩ := h
  simp [dividerAfter, htick, hdiv]

theorem toNat_dividerAfter {inp : Inputs} {s : State} (hlegal : s.cfg.legal = true) (htick : inp.tick = true)
    (hlt : s.regs.tickDiv.toNat < s.cfg.tickDivM) :
    (dividerAfter inp s).toNat = (s.regs.tickDiv.toNat + 1) % s.cfg.tickDivM := by
  obtain ⟨-, -, -, -, -, -, -, hmax, -⟩ := (legal_iff s.cfg).1 hlegal
  rw [dividerAfter, if_pos htick]
  split
  · rename_i hdiv
    rw [hdiv, Nat.mod_self]
    rfl
  · rw [BitVec.toNat_ofNat, Nat.mod_eq_of_lt (by omega), Nat.mod_eq_of_lt (by omega)]

/-- The state that the Safety Monitor of a step finds: the conversion is done and the divider has counted. -/
def monitored (inp : Inputs) (s : State) : State :=
  { conversionEvent inp (beginStep s) with
    regs := { (conversionEvent inp s).regs with tickDiv := dividerAfter inp s } }

@[simp] theorem monitored_cfg (inp : Inputs) (s : State) : (monitored inp s).cfg = s.cfg := by simp [monitored]

@[simp] theorem monitored_regs (inp : Inputs) (s : State) :
    (monitored inp s).regs = { (conversionEvent inp s).regs with tickDiv := dividerAfter inp s } := rfl

@[simp] theorem monitored_out (inp : Inputs) (s : State) : (monitored inp s).out = StepOutputs.idle := by simp [monitored]

/-- The timer event of a step is at most a control tick of the state that the monitor finds (R81). -/
theorem timerEvent_monitored (inp : Inputs) (s : State) :
    (controlTickDue inp s ∧ timerEvent inp (conversionEvent inp (beginStep s)) = controlTick (monitored inp s)) ∨
    (¬ controlTickDue inp s ∧ timerEvent inp (conversionEvent inp (beginStep s)) = monitored inp s) := by
  have hregs := conversionEvent_beginStep_regs inp s
  rcases timerEvent_cases inp (conversionEvent inp (beginStep s)) with ⟨htick, e⟩ | ⟨htick, e⟩ <;> rw [e]
  · rcases timerTick_cases (conversionEvent inp (beginStep s)) with ⟨hdiv, e⟩ | ⟨hdiv, e⟩ <;> rw [e]
    · have hdue : controlTickDue inp s := ⟨htick, by simpa using hdiv⟩
      exact .inl ⟨hdue, by rw [monitored, dividerAfter_of_due hdue, hregs]⟩
    · have hdiv' : s.regs.tickDiv.toNat + 1 ≠ s.cfg.tickDivM := by simpa using hdiv
      exact .inr ⟨fun hdue => hdiv' hdue.2, by simp [monitored, dividerAfter, htick, hdiv', hregs]⟩
  · refine .inr ⟨fun hdue => absurd (hdue.1.symm.trans htick) Bool.noConfusion, ?_⟩
    have hdiv : (conversionEvent inp s).regs.tickDiv = s.regs.tickDiv := by simp
    rw [monitored, dividerAfter_of_no_tick htick, ← hdiv, ← hregs]

/-- The three ways through the events before the request (R82): a trip, a PID update, or neither. -/
theorem beforeRequest_cases (inp : Inputs) (s : State) :
    (tripDue inp s ∧ beforeRequest inp (beginStep s) = readPhase inp (tripActions (monitored inp s))) ∨
    (PidUpdateDue inp s ∧ beforeRequest inp (beginStep s) = readPhase inp (pidUpdate (monitored inp s))) ∨
    (¬ tripDue inp s ∧ ¬ PidUpdateDue inp s ∧ beforeRequest inp (beginStep s) = readPhase inp (monitored inp s)) := by
  have hcomparator : overTemp (monitored inp s).cfg (monitored inp s).regs = overTemp s.cfg (conversionEvent inp s).regs := by
    rw [monitored_cfg]
    exact overTemp_congr rfl rfl
  have hmode' : (monitored inp s).regs.heaterMode = s.regs.heaterMode := by simp
  unfold beforeRequest
  rcases timerEvent_monitored inp s with ⟨hdue, e⟩ | ⟨hdue, e⟩ <;> rw [e]
  · rcases controlTick_cases (monitored inp s) with ⟨htrip, e⟩ | ⟨htrip, hmode, e⟩ | ⟨htrip, hmode, e⟩ <;>
      rw [e] <;> rw [hcomparator] at htrip
    · exact .inl ⟨⟨hdue, htrip⟩, rfl⟩
    · exact .inr (.inl ⟨⟨hdue, hmode' ▸ hmode, htrip⟩, rfl⟩)
    · exact .inr (.inr ⟨fun h => absurd (h.2.symm.trans htrip) Bool.noConfusion, fun h => hmode (hmode'.trans h.2.1), rfl⟩)
  · exact .inr (.inr ⟨fun h => hdue h.1, fun h => hdue h.1, rfl⟩)

theorem not_tripDue_of_pidUpdateDue {inp : Inputs} {s : State} (h : PidUpdateDue inp s) : ¬ tripDue inp s :=
  fun htrip => absurd (htrip.2.symm.trans h.2.2) Bool.noConfusion

/-- What the events before the request leave in the registers that neither a trip nor a PID update writes. -/
theorem beforeRequest_keeps (inp : Inputs) (s : State) :
    (beforeRequest inp (beginStep s)).regs.raw = (conversionEvent inp s).regs.raw ∧
    (beforeRequest inp (beginStep s)).regs.acc = (conversionEvent inp s).regs.acc ∧
    (beforeRequest inp (beginStep s)).regs.filt = (conversionEvent inp s).regs.filt ∧
    (beforeRequest inp (beginStep s)).regs.bgWake = (conversionEvent inp s).regs.bgWake ∧
    (beforeRequest inp (beginStep s)).regs.tickDiv = dividerAfter inp s ∧
    (beforeRequest inp (beginStep s)).regs.setPoint = s.regs.setPoint ∧
    (beforeRequest inp (beginStep s)).regs.controlSensor = s.regs.controlSensor ∧
    (beforeRequest inp (beginStep s)).regs.pwmDuty = s.regs.pwmDuty ∧
    (beforeRequest inp (beginStep s)).regs.maxTemp = s.regs.maxTemp ∧
    (beforeRequest inp (beginStep s)).regs.pwmCounter = s.regs.pwmCounter ∧
    (beforeRequest inp (beginStep s)).regs.startReq = s.regs.startReq ∧
    (beforeRequest inp (beginStep s)).regs.skipLatched = s.regs.skipLatched ∧
    (beforeRequest inp (beginStep s)).regs.respLen = s.regs.respLen ∧
    (beforeRequest inp (beginStep s)).regs.resp0 = s.regs.resp0 ∧
    (beforeRequest inp (beginStep s)).regs.resp1 = s.regs.resp1 ∧
    (beforeRequest inp (beginStep s)).out.adcStart = false ∧
    (beforeRequest inp (beginStep s)).out.sysRestart = false := by
  rcases beforeRequest_cases inp s with ⟨-, e⟩ | ⟨-, e⟩ | ⟨-, -, e⟩ <;> rw [e] <;> simp [StepOutputs.idle]

/-- R35, R84: the per-step signal of a trip. -/
theorem beforeRequest_tripNow (inp : Inputs) (s : State) :
    (beforeRequest inp (beginStep s)).out.tripNow = true ↔ tripDue inp s := by
  rcases beforeRequest_cases inp s with ⟨htrip, e⟩ | ⟨hpid, e⟩ | ⟨htrip, -, e⟩ <;> rw [e]
  · simp [htrip]
  · simp [not_tripDue_of_pidUpdateDue hpid, StepOutputs.idle]
  · simp [htrip, StepOutputs.idle]

/-- R84. -/
theorem beforeRequest_of_tripDue {inp : Inputs} {s : State} (h : tripDue inp s) :
    (beforeRequest inp (beginStep s)).regs.heaterMode = .off ∧ (beforeRequest inp (beginStep s)).regs.trip = true ∧
    (beforeRequest inp (beginStep s)).regs.swOut = false := by
  rcases beforeRequest_cases inp s with ⟨-, e⟩ | ⟨hpid, -⟩ | ⟨htrip, -⟩
  · simp [e]
  · exact absurd h (not_tripDue_of_pidUpdateDue hpid)
  · exact absurd h htrip

theorem beforeRequest_of_not_tripDue {inp : Inputs} {s : State} (h : ¬ tripDue inp s) :
    (beforeRequest inp (beginStep s)).regs.heaterMode = s.regs.heaterMode ∧
    (beforeRequest inp (beginStep s)).regs.trip = s.regs.trip ∧ (beforeRequest inp (beginStep s)).regs.swOut = s.regs.swOut := by
  rcases beforeRequest_cases inp s with ⟨htrip, -⟩ | ⟨-, e⟩ | ⟨-, -, e⟩
  · exact absurd htrip h
  · simp [e]
  · simp [e]

/-- R87. -/
theorem beforeRequest_of_pidUpdateDue {inp : Inputs} {s : State} (h : PidUpdateDue inp s) :
    (beforeRequest inp (beginStep s)).regs = (pidUpdate (monitored inp s)).regs := by
  rcases beforeRequest_cases inp s with ⟨htrip, -⟩ | ⟨-, e⟩ | ⟨-, hpid, -⟩
  · exact absurd htrip (not_tripDue_of_pidUpdateDue h)
  · rw [e, readPhase_regs]
  · exact absurd h hpid

/-- R93: a trip writes none of the controller's registers. -/
theorem beforeRequest_of_not_pidUpdateDue {inp : Inputs} {s : State} (h : ¬ PidUpdateDue inp s) :
    (beforeRequest inp (beginStep s)).regs.errorSum = s.regs.errorSum ∧
    (beforeRequest inp (beginStep s)).regs.lastOutput = s.regs.lastOutput ∧
    (beforeRequest inp (beginStep s)).regs.cmpReg = s.regs.cmpReg := by
  rcases beforeRequest_cases inp s with ⟨-, e⟩ | ⟨hpid, -⟩ | ⟨-, -, e⟩
  · simp [e]
  · exact absurd hpid h
  · simp [e]

/-! ## The request -/

/-- What no command but SRST writes: the registers of the conversion, the controller, the PWM counter, the divider and the sequencer, and
the step's signals (R110). -/
structure HostFrame (s t : State) : Prop where
  out : t.out = s.out
  raw : t.regs.raw = s.regs.raw
  acc : t.regs.acc = s.regs.acc
  filt : t.regs.filt = s.regs.filt
  errorSum : t.regs.errorSum = s.regs.errorSum
  lastOutput : t.regs.lastOutput = s.regs.lastOutput
  cmpReg : t.regs.cmpReg = s.regs.cmpReg
  pwmCounter : t.regs.pwmCounter = s.regs.pwmCounter
  tickDiv : t.regs.tickDiv = s.regs.tickDiv
  bgWake : t.regs.bgWake = s.regs.bgWake
  startReq : t.regs.startReq = s.regs.startReq
  skipLatched : t.regs.skipLatched = s.regs.skipLatched

theorem exec_hostFrame {i : Instr} {s t : State} (hsrst : i ≠ .srst) (h : exec i s = .next t) : HostFrame s t := by
  rcases exec_cases h with ⟨-, v, rfl⟩ | ⟨-, -, rfl⟩ | ⟨m, mode, -, -, rfl⟩ | ⟨v, -, rfl⟩ | ⟨n, -, -, rfl⟩ | ⟨d, -, rfl⟩ |
    ⟨v, -, rfl⟩ | ⟨hsrst', -⟩
  on_goal 8 => exact absurd hsrst' hsrst
  all_goals exact ⟨rfl, rfl, rfl, rfl, rfl, rfl, rfl, rfl, rfl, rfl, rfl, rfl⟩

theorem requestEvent_hostFrame {inp : Inputs} {s t : State} (hsrst : ¬ requests inp .srst) (h : requestEvent inp s = .next t) :
    HostFrame s t := by
  rcases requestEvent_cases h with ⟨-, rfl⟩ | ⟨i, hi, hexec⟩
  · exact ⟨rfl, rfl, rfl, rfl, rfl, rfl, rfl, rfl, rfl, rfl, rfl, rfl⟩
  · exact exec_hostFrame (fun hsrst' => hsrst (hsrst' ▸ hi)) hexec

/-- What no request at all writes, SRST included. -/
theorem requestEvent_keeps {inp : Inputs} {s t : State} (h : requestEvent inp s = .next t) :
    t.cfg = s.cfg ∧ t.inputs = s.inputs ∧ t.out.tripNow = s.out.tripNow ∧ t.out.rdData = s.out.rdData := by
  rcases requestEvent_cases h with ⟨-, rfl⟩ | ⟨i, -, hexec⟩
  · exact ⟨rfl, rfl, rfl, rfl⟩
  · obtain ⟨hcfg, hinputs, -, htrip, hread, -⟩ := exec_keeps hexec
    exact ⟨hcfg, hinputs, htrip, hread⟩

theorem requestEvent_of_none {inp : Inputs} {s t : State} (hreq : inp.req = none) (h : requestEvent inp s = .next t) : t = s := by
  rcases requestEvent_cases h with ⟨-, e⟩ | ⟨i, hi, -⟩
  · exact e
  · exact absurd hi (not_requests_of_none hreq i)

theorem writesMode_iff {inp : Inputs} {mode : HeaterMode} :
    WritesMode inp mode ↔ ∃ m, requests inp (.wrMode (some m)) ∧ modeOfByte m = some mode := by
  simp only [WritesMode, modeOfByte_eq_some_iff]

/-- A step has at most one request. -/
theorem not_srst_of_writesMode {inp : Inputs} {mode : HeaterMode} (h : WritesMode inp mode) : ¬ requests inp .srst := by
  obtain ⟨m, hm, -⟩ := h
  exact fun hsrst => Instr.noConfusion (requests_unique hm hsrst)

/-- R111. -/
theorem requestEvent_of_writesMode {inp : Inputs} {mode : HeaterMode} {s t : State} (hw : WritesMode inp mode)
    (h : requestEvent inp s = .next t) : t.regs.heaterMode = mode ∧ t.regs.trip = false ∧ t.regs.swOut = false := by
  obtain ⟨m, hm, hmode⟩ := writesMode_iff.1 hw
  rw [requestEvent_of_requests hm, exec_wrMode_of_mode hmode] at h
  obtain rfl := Host.Outcome.next.inj h
  exact ⟨rfl, rfl, rfl⟩

/-- R94, R24: no request but an accepted WR_MODE or SRST writes the mode, the trip flag or the drive. -/
theorem requestEvent_of_not_writesMode {inp : Inputs} {s t : State} (hsrst : ¬ requests inp .srst)
    (hw : ∀ mode, ¬ WritesMode inp mode) (h : requestEvent inp s = .next t) :
    t.regs.heaterMode = s.regs.heaterMode ∧ t.regs.trip = s.regs.trip ∧ t.regs.swOut = s.regs.swOut := by
  rcases requestEvent_cases h with ⟨-, rfl⟩ | ⟨i, hi, hexec⟩
  · exact ⟨rfl, rfl, rfl⟩
  · rcases exec_cases hexec with ⟨-, v, rfl⟩ | ⟨-, -, rfl⟩ | ⟨m, mode, rfl, hmode, -⟩ | ⟨v, -, rfl⟩ | ⟨n, -, -, rfl⟩ |
      ⟨d, -, rfl⟩ | ⟨v, -, rfl⟩ | ⟨rfl, -⟩
    on_goal 3 => exact absurd (writesMode_iff.2 ⟨m, hi, hmode⟩) (hw mode)
    on_goal 7 => exact absurd hi hsrst
    all_goals exact ⟨rfl, rfl, rfl⟩

/-- R40: each configuration register is written by its own command alone. -/
theorem requestEvent_keeps_configuration {inp : Inputs} {s t : State} (hsrst : ¬ requests inp .srst)
    (h : requestEvent inp s = .next t) :
    ((∀ v, ¬ requests inp (.wrSp (some v))) → t.regs.setPoint = s.regs.setPoint) ∧
    ((∀ n : Byte, n.toNat < 8 → ¬ requests inp (.wrSens (some n))) → t.regs.controlSensor = s.regs.controlSensor) ∧
    ((∀ d, ¬ requests inp (.wrPwm (some d))) → t.regs.pwmDuty = s.regs.pwmDuty) ∧
    ((∀ v, ¬ requests inp (.wrMax (some v))) → t.regs.maxTemp = s.regs.maxTemp) := by
  rcases requestEvent_cases h with ⟨-, rfl⟩ | ⟨i, hi, hexec⟩
  · exact ⟨fun _ => rfl, fun _ => rfl, fun _ => rfl, fun _ => rfl⟩
  · rcases exec_cases hexec with ⟨-, v, rfl⟩ | ⟨-, -, rfl⟩ | ⟨m, mode, -, -, rfl⟩ | ⟨v, rfl, rfl⟩ | ⟨n, rfl, hn, rfl⟩ |
      ⟨d, rfl, rfl⟩ | ⟨v, rfl, rfl⟩ | ⟨rfl, -⟩
    · exact ⟨fun _ => rfl, fun _ => rfl, fun _ => rfl, fun _ => rfl⟩
    · exact ⟨fun _ => rfl, fun _ => rfl, fun _ => rfl, fun _ => rfl⟩
    · exact ⟨fun _ => rfl, fun _ => rfl, fun _ => rfl, fun _ => rfl⟩
    · exact ⟨fun hnot => absurd hi (hnot v), fun _ => rfl, fun _ => rfl, fun _ => rfl⟩
    · exact ⟨fun _ => rfl, fun hnot => absurd hi (hnot n hn), fun _ => rfl, fun _ => rfl⟩
    · exact ⟨fun _ => rfl, fun _ => rfl, fun hnot => absurd hi (hnot d), fun _ => rfl⟩
    · exact ⟨fun _ => rfl, fun _ => rfl, fun _ => rfl, fun hnot => absurd hi (hnot v)⟩
    · exact absurd hi hsrst

/-! ## The background slot -/

/-- R97: a pass consumes the wake. -/
@[simp] theorem backgroundPass_bgWake (s : State) : (backgroundPass s).regs.bgWake = false := by
  rcases backgroundPass_cases s with ⟨hwake, e⟩ | ⟨-, -, e⟩ | ⟨-, -, e⟩ | ⟨-, -, e⟩ <;> rw [e]
  exact hwake

/-- R97: a pass asks for the next conversion. -/
@[simp] theorem backgroundPass_startReq (s : State) :
    (backgroundPass s).regs.startReq = (s.regs.startReq || s.regs.bgWake) := by
  rcases backgroundPass_cases s with ⟨hwake, e⟩ | ⟨hwake, -, e⟩ | ⟨hwake, -, e⟩ | ⟨hwake, -, e⟩ <;> simp [e, hwake]

theorem backgroundPass_pwmCounter_of {s : State} (h : s.regs.bgWake = false ∨ s.regs.heaterMode ≠ .pwm) :
    (backgroundPass s).regs.pwmCounter = s.regs.pwmCounter := by
  rcases backgroundPass_cases s with ⟨-, e⟩ | ⟨hwake, hmode, -⟩ | ⟨-, -, e⟩ | ⟨-, -, e⟩
  on_goal 2 => simp [hwake, hmode] at h
  all_goals rw [e]

theorem backgroundPass_swOut_of_off {s : State} (hwake : s.regs.bgWake = true) (hmode : s.regs.heaterMode = .off) :
    (backgroundPass s).regs.swOut = false := by
  simp only [backgroundPass, hwake, hmode, if_true]

theorem backgroundPass_swOut_of {s : State} (h : s.regs.bgWake = false ∨ s.regs.heaterMode = .pid) :
    (backgroundPass s).regs.swOut = s.regs.swOut := by
  rcases backgroundPass_cases s with ⟨-, e⟩ | ⟨hwake, hmode, -⟩ | ⟨hwake, hmode, -⟩ | ⟨-, -, e⟩
  on_goal 2 => simp [hwake, hmode] at h
  on_goal 2 => simp [hwake, hmode] at h
  all_goals rw [e]

@[simp] theorem conversionRequest_startReq (s : State) : (conversionRequest s).regs.startReq = false := by
  rcases conversionRequest_cases s with ⟨hstart, e⟩ | ⟨-, e⟩ <;> rw [e]
  exact hstart

@[simp] theorem conversionRequest_adcStart (s : State) :
    (conversionRequest s).out.adcStart = (s.out.adcStart || s.regs.startReq) := by
  rcases conversionRequest_cases s with ⟨hstart, e⟩ | ⟨hstart, e⟩ <;> simp [e, hstart]

/-- R98: the mask sent is latched. -/
theorem conversionRequest_of_startReq {s : State} (h : s.regs.startReq = true) :
    (conversionRequest s).out.adcSkip = skipMask s.cfg s.regs ∧
    (conversionRequest s).regs.skipLatched = skipMask s.cfg s.regs := by
  rw [conversionRequest, if_pos h]
  exact ⟨rfl, rfl⟩

theorem conversionRequest_of_not_startReq {s : State} (h : s.regs.startReq = false) : conversionRequest s = s :=
  if_neg (by simp [h])

/-! ## The whole step -/

/-- A step without a power-on reset is its events up to the request, the request, and what follows. -/
theorem step_events {s t : State} (h : step s = .next t) (hrst : (sampleInputs s).rst = false) :
    ∃ u, requestEvent (sampleInputs s) (beforeRequest (sampleInputs s) (beginStep s)) = .next u ∧
      t = afterRequest (sampleInputs s) u := by
  obtain ⟨-, -, ⟨hnot, -⟩ | ⟨-, hevents⟩⟩ := step_cases h
  · exact absurd (hrst.symm.trans hnot) Bool.noConfusion
  · exact hevents

/-- Without a soft reset the background slot runs, on what the request has left of its frame. -/
theorem step_phases {s t : State} (h : step s = .next t) (hn : NoReset (sampleInputs s)) :
    ∃ u, requestEvent (sampleInputs s) (beforeRequest (sampleInputs s) (beginStep s)) = .next u ∧
      HostFrame (beforeRequest (sampleInputs s) (beginStep s)) u ∧
      t = presentOutputs (sampleInputs s).cmpWave (conversionRequest (backgroundPass u)) := by
  obtain ⟨hrst, hsrst⟩ := hn
  obtain ⟨u, hu, rfl⟩ := step_events h hrst
  have hframe := requestEvent_hostFrame hsrst hu
  have hrestart : u.out.sysRestart = false := by simp [hframe.out, beforeRequest_keeps]
  exact ⟨u, hu, hframe, by rw [afterRequest, backgroundSlot, if_neg (by simp [hrestart])]⟩

theorem noReset_of_req_none {inp : Inputs} (hrst : inp.rst = false) (hreq : inp.req = none) : NoReset inp :=
  ⟨hrst, not_requests_of_none hreq _⟩

theorem noReset_of_writesMode {inp : Inputs} {mode : HeaterMode} (hrst : inp.rst = false) (h : WritesMode inp mode) :
    NoReset inp := ⟨hrst, not_srst_of_writesMode h⟩

theorem not_writesMode_of_req_none {inp : Inputs} (h : inp.req = none) (mode : HeaterMode) : ¬ WritesMode inp mode :=
  fun ⟨_, hm, _⟩ => not_requests_of_none h _ hm

/-- R79, R81: the filter bank and the divider after a step. -/
theorem step_filterBank {s t : State} (h : step s = .next t) (hn : NoReset (sampleInputs s)) :
    t.regs.raw = (conversionEvent (sampleInputs s) s).regs.raw ∧ t.regs.acc = (conversionEvent (sampleInputs s) s).regs.acc ∧
    t.regs.filt = (conversionEvent (sampleInputs s) s).regs.filt ∧ t.regs.tickDiv = dividerAfter (sampleInputs s) s := by
  obtain ⟨u, -, hframe, rfl⟩ := step_phases h hn
  simp [hframe.raw, hframe.acc, hframe.filt, hframe.tickDiv, beforeRequest_keeps]

/-- R93: the controller's registers after a step are those its events before the request leave. -/
theorem step_pid {s t : State} (h : step s = .next t) (hn : NoReset (sampleInputs s)) :
    t.regs.errorSum = (beforeRequest (sampleInputs s) (beginStep s)).regs.errorSum ∧
    t.regs.lastOutput = (beforeRequest (sampleInputs s) (beginStep s)).regs.lastOutput ∧
    t.regs.cmpReg = (beforeRequest (sampleInputs s) (beginStep s)).regs.cmpReg := by
  obtain ⟨u, -, hframe, rfl⟩ := step_phases h hn
  simp [hframe.errorSum, hframe.lastOutput, hframe.cmpReg]

/-- R53, R94: an accepted WR_MODE stands, whatever came before it in the step. -/
theorem step_of_writesMode {s t : State} {mode : HeaterMode} (h : step s = .next t) (hrst : (sampleInputs s).rst = false)
    (hw : WritesMode (sampleInputs s) mode) : t.regs.heaterMode = mode ∧ t.regs.trip = false := by
  obtain ⟨u, hu, -, rfl⟩ := step_phases h (noReset_of_writesMode hrst hw)
  obtain ⟨hmode, htrip, -⟩ := requestEvent_of_writesMode hw hu
  simp [hmode, htrip]

/-- R84: a trip without an accepted WR_MODE after it. -/
theorem step_of_tripDue {s t : State} (h : step s = .next t) (hn : NoReset (sampleInputs s))
    (hw : ∀ mode, ¬ WritesMode (sampleInputs s) mode) (htrip : tripDue (sampleInputs s) s) :
    t.regs.heaterMode = .off ∧ t.regs.trip = true := by
  obtain ⟨u, hu, -, rfl⟩ := step_phases h hn
  obtain ⟨hmode, hflag, -⟩ := requestEvent_of_not_writesMode hn.2 hw hu
  simp [hmode, hflag, beforeRequest_of_tripDue htrip]

/-- R94, R24: nothing else writes the mode or the trip flag. -/
theorem step_of_not_tripDue {s t : State} (h : step s = .next t) (hn : NoReset (sampleInputs s))
    (hw : ∀ mode, ¬ WritesMode (sampleInputs s) mode) (htrip : ¬ tripDue (sampleInputs s) s) :
    t.regs.heaterMode = s.regs.heaterMode ∧ t.regs.trip = s.regs.trip := by
  obtain ⟨u, hu, -, rfl⟩ := step_phases h hn
  obtain ⟨hmode, hflag, -⟩ := requestEvent_of_not_writesMode hn.2 hw hu
  simp [hmode, hflag, beforeRequest_of_not_tripDue htrip]

/-- The registers of a step with a reset in it (R132, R133). -/
theorem step_of_reset {s t : State} (h : step s = .next t)
    (hreset : (sampleInputs s).rst = true ∨ requests (sampleInputs s) .srst) : t.regs = Regs.resetFor s.cfg := by
  cases hrst : (sampleInputs s).rst
  · obtain rfl := step_of_srst h hrst (hreset.resolve_left (by simp [hrst]))
    exact congrArg Regs.resetFor (by simp)
  · obtain rfl := step_of_rst h hrst
    exact congrArg Regs.resetFor (by simp)

/-- R35: a step raises `trip_now` exactly when it trips. -/
theorem step_tripNow {s t : State} (h : step s = .next t) (hrst : (sampleInputs s).rst = false) :
    t.out.tripNow = true ↔ tripDue (sampleInputs s) s := by
  obtain ⟨u, hu, rfl⟩ := step_events h hrst
  obtain ⟨-, -, htrip, -⟩ := requestEvent_keeps hu
  rw [← beforeRequest_tripNow, ← htrip, afterRequest]
  simp

/-- R14, R95: the outputs are functions of the state that the step leaves. -/
theorem step_outputs {s t : State} (h : step s = .next t) (hrst : (sampleInputs s).rst = false) :
    t.out.heaterPin = heaterPinOf (sampleInputs s).cmpWave t ∧ t.out.cmpRoute = decide (t.regs.heaterMode = .pid) ∧
    t.out.cmpValue = t.regs.cmpReg := by
  obtain ⟨u, -, rfl⟩ := step_events h hrst
  exact ⟨rfl, rfl, rfl⟩

/-- R51: the bytes of a step's read phase are those of the response before the step. -/
theorem step_rdData {s t : State} {n : Nat} (h : step s = .next t) (hrst : (sampleInputs s).rst = false)
    (hread : (sampleInputs s).rdCount = some n) : t.out.rdData = respBytes s.regs n := by
  obtain ⟨u, hu, rfl⟩ := step_events h hrst
  obtain ⟨-, -, -, hdata⟩ := requestEvent_keeps hu
  calc (afterRequest (sampleInputs s) u).out.rdData
    _ = u.out.rdData := by simp [afterRequest]
    _ = respBytes (beginStep s).regs n := by rw [hdata, beforeRequest_rdData hread]
    _ = respBytes s.regs n := by rw [beginStep_regs]

/-- R6: no step writes the parameters, and each consumes one sample. -/
theorem step_cfg_inputs {s t : State} (h : step s = .next t) : t.cfg = s.cfg ∧ t.inputs = s.inputs.tail := by
  obtain ⟨-, -, ⟨-, rfl⟩ | ⟨-, u, hu, rfl⟩⟩ := step_cases h
  · simp
  · obtain ⟨hcfg, hinputs, -⟩ := requestEvent_keeps hu
    simp [afterRequest, hcfg, hinputs]

/-- What the background slot of a step finds (R97, R98): the wake of the conversion, the sequencer's and the PWM counter's registers as
before the step, and the drive forced off or as before the step. -/
theorem step_slot {s t : State} (h : step s = .next t) (hn : NoReset (sampleInputs s)) :
    ∃ u, t = presentOutputs (sampleInputs s).cmpWave (conversionRequest (backgroundPass u)) ∧ u.cfg = s.cfg ∧
      (u.regs.bgWake = true ↔ PassDue (sampleInputs s) s) ∧ u.regs.startReq = s.regs.startReq ∧
      u.regs.skipLatched = s.regs.skipLatched ∧ u.regs.pwmCounter = s.regs.pwmCounter ∧ u.out.adcStart = false ∧
      (DriveForcedOff (sampleInputs s) s → u.regs.swOut = false) ∧
      (¬ DriveForcedOff (sampleInputs s) s → u.regs.swOut = s.regs.swOut) := by
  obtain ⟨u, hu, hframe, ht⟩ := step_phases h hn
  obtain ⟨hcfg, -⟩ := requestEvent_keeps hu
  refine ⟨u, ht, by simpa using hcfg, ?wake, ?_, ?_, ?_, ?_, ?forced, ?kept⟩
  case wake =>
    rw [hframe.bgWake, ← conversionEvent_bgWake]
    simp [beforeRequest_keeps]
  case forced =>
    intro hoff
    by_cases hw : ∃ mode, WritesMode (sampleInputs s) mode
    · obtain ⟨mode, hw⟩ := hw
      exact (requestEvent_of_writesMode hw hu).2.2
    · obtain ⟨-, -, hsw⟩ := requestEvent_of_not_writesMode hn.2 (not_exists.1 hw) hu
      rw [hsw, (beforeRequest_of_tripDue (hoff.resolve_right hw)).2.2]
  case kept =>
    intro hoff
    obtain ⟨htrip, hw⟩ := not_or.1 hoff
    obtain ⟨-, -, hsw⟩ := requestEvent_of_not_writesMode hn.2 (not_exists.1 hw) hu
    rw [hsw, (beforeRequest_of_not_tripDue htrip).2.2]
  all_goals simp [hframe.startReq, hframe.skipLatched, hframe.pwmCounter, hframe.out, beforeRequest_keeps]

end Sys2Proof
end

section
/-! The obligations on whole steps (10_state.md, 40_sensor_conditioning.md, 41_safety_monitor.md, 42_pid.md, 43_heater_actuator.md, 60_exceptions.md). -/

namespace Sys2Proof

open Machine Claims

/-! ## Configuration registers and the filter bank -/

/-- Settles O11: before the request the configuration registers are as they were, and after it nothing writes them. -/
theorem stepKeepsTheParameters : Obligations.StepKeepsTheParameters := by
  intro s t h
  obtain ⟨hcfg, hinputs⟩ := step_cfg_inputs h
  refine ⟨hcfg, hinputs, fun hn => ?_⟩
  obtain ⟨u, hu, -, rfl⟩ := step_phases h hn
  obtain ⟨hsp, hsens, hpwm, hmax⟩ := requestEvent_keeps_configuration hn.2 hu
  refine ⟨fun v hv => ?_, fun hv => ?_, fun n hn8 hv => ?_, fun hv => ?_, fun d hd => ?_, fun hd => ?_, fun v hv => ?_,
    fun hv => ?_⟩
  · rw [requestEvent_of_requests hv, exec_wrSp_some] at hu
    simp [← Host.Outcome.next.inj hu]
  · simp [hsp hv, beforeRequest_keeps]
  · rw [requestEvent_of_requests hv, exec_wrSens_of_lt hn8] at hu
    simpa [← Host.Outcome.next.inj hu] using hn8
  · simp [hsens hv, beforeRequest_keeps]
  · rw [requestEvent_of_requests hd, exec_wrPwm_some] at hu
    simp [← Host.Outcome.next.inj hu]
  · simp [hpwm hd, beforeRequest_keeps]
  · rw [requestEvent_of_requests hv, exec_wrMax_some] at hu
    simp [← Host.Outcome.next.inj hu]
  · simp [hmax hv, beforeRequest_keeps]

/-- Settles O39: the conversion is the step's first event, and no later one writes the filter bank. -/
theorem onlyConversionsAndResetsWriteTheFilterBank : Obligations.OnlyConversionsAndResetsWriteTheFilterBank := by
  intro s t h
  refine ⟨fun hn => ?converted, fun hconv hrst hsrst => ?kept, fun hreset => ?reset⟩
  case converted =>
    obtain ⟨hraw, hacc, hfilt, -⟩ := step_filterBank h hn
    exact ⟨hraw, hacc, hfilt⟩
  case kept =>
    obtain ⟨hraw, hacc, hfilt, -⟩ := step_filterBank h ⟨hrst, hsrst⟩
    have hsame : conversionEvent (sampleInputs s) s = s := by rw [conversionEvent, hconv]
    rw [hsame] at hraw hacc hfilt
    exact ⟨hraw, hacc, hfilt⟩
  case reset =>
    rw [step_of_reset h hreset]
    exact ⟨rfl, rfl, rfl⟩

/-! ## The response buffer -/

/-- R50, R51: the bytes of a full response, padded. -/
theorem respBytes_of_full {r : Regs} (h : r.respLen = 2) (n : Nat) :
    respBytes r n = ([r.resp0, r.resp1] ++ List.replicate n 0).take n := by
  refine List.ext_getElem (by simp [Nat.le_add_right_of_le]) fun j _ _ => ?_
  simp only [respBytes, List.getElem_map, List.getElem_range, List.getElem_take, respByte, h]
  match j with
  | 0 => rfl
  | 1 => rfl
  | j + 2 => simp

/-- R51: a step with neither request nor reset keeps the response. -/
theorem step_keeps_response {s t : State} (h : step s = .next t) (hrst : (sampleInputs s).rst = false)
    (hreq : (sampleInputs s).req = none) :
    t.regs.respLen = s.regs.respLen ∧ t.regs.resp0 = s.regs.resp0 ∧ t.regs.resp1 = s.regs.resp1 := by
  obtain ⟨u, hu, -, rfl⟩ := step_phases h (noReset_of_req_none hrst hreq)
  simp [requestEvent_of_none hreq hu, beforeRequest_keeps]

/-- Settles O30: a read phase sees the response before the step, and a step without a request keeps it for the next one. -/
theorem readPhaseReturnsThePreviousResponse : Obligations.ReadPhaseReturnsThePreviousResponse := by
  refine ⟨fun s t n _ h hrst hread => ⟨fun hfull => ?_, fun hempty => ?_⟩, fun s t => step_keeps_response,
    fun s t u n h h' hrst hreq hrst' hread hread' => ?again⟩
  · rw [step_rdData h hrst hread, respBytes_of_full hfull]
  · rw [step_rdData h hrst hread, respBytes_of_empty hempty]
  case again =>
    obtain ⟨hlen, h0, h1⟩ := step_keeps_response h hrst hreq
    rw [step_rdData h' hrst' hread', step_rdData h hrst hread, respBytes_congr hlen h0 h1]

/-- R106: RD_SP leaves the two bytes of the set point before its step. -/
theorem step_of_rdSp {s t : State} (h : step s = .next t) (hrst : (sampleInputs s).rst = false)
    (hreq : requests (sampleInputs s) .rdSp) :
    t.regs.respLen = 2 ∧ t.regs.resp0 = loByte s.regs.setPoint ∧ t.regs.resp1 = hiByte s.regs.setPoint := by
  obtain ⟨u, hu, -, rfl⟩ := step_phases h ⟨hrst, fun hsrst => Instr.noConfusion (requests_unique hreq hsrst)⟩
  have hexec (v : State) : exec .rdSp v = .next (respond v.regs.setPoint v) := rfl
  rw [requestEvent_of_requests hreq, hexec] at hu
  simp [← Host.Outcome.next.inj hu, beforeRequest_keeps]

theorem step_of_wrSp {s t : State} {v : Word} (h : step s = .next t) (hrst : (sampleInputs s).rst = false)
    (hreq : requests (sampleInputs s) (.wrSp (some v))) : t.regs.setPoint = v := by
  obtain ⟨-, -, hwrites⟩ := stepKeepsTheParameters s t h
  exact (hwrites ⟨hrst, fun hsrst => Instr.noConfusion (requests_unique hreq hsrst)⟩).1 v hreq

theorem run_succ_of_step {M : Host.Core} {s t : M.State} (h : M.step s = .next t) (k : Nat) :
    M.run (k + 1) s = M.run k t := by
  rw [Host.Core.run, h]

theorem run_succ {s t : State} (h : step s = .next t) (k : Nat) :
    Host.Core.run core (k + 1) s = Host.Core.run core k t :=
  run_succ_of_step (M := core) h k

theorem sampleInputs_of_cons {s : State} {inp : Inputs} {rest : List Inputs} (h : s.inputs = inp :: rest) :
    sampleInputs s = inp := by
  rw [sampleInputs, h]

/-- Settles O31: the three steps complete; the first writes the set point, the second answers it, the third returns the answer. -/
theorem setPointRoundTripsThroughTheInterface : Obligations.SetPointRoundTripsThroughTheInterface := by
  intro s a b c rest v n hlegal hinputs ha hb hc harst hbrst hcrst haw hbr hcr
  obtain rfl := sampleInputs_of_cons hinputs
  obtain ⟨s₁, h₁⟩ := step_completes hlegal ha
  obtain ⟨hcfg₁, hinputs₁⟩ := step_cfg_inputs h₁
  rw [hinputs, List.tail_cons] at hinputs₁
  obtain rfl := sampleInputs_of_cons hinputs₁
  obtain ⟨s₂, h₂⟩ := step_completes (hcfg₁ ▸ hlegal) (hcfg₁ ▸ hb)
  obtain ⟨hcfg₂, hinputs₂⟩ := step_cfg_inputs h₂
  rw [hinputs₁, List.tail_cons] at hinputs₂
  obtain rfl := sampleInputs_of_cons hinputs₂
  rw [hcfg₁] at hcfg₂
  obtain ⟨s₃, h₃⟩ := step_completes (hcfg₂ ▸ hlegal) (hcfg₂ ▸ hc)
  obtain ⟨hlen, h0, h1⟩ := step_of_rdSp h₂ hbrst hbr
  refine ⟨s₃, by rw [run_succ h₁, run_succ h₂, run_succ h₃]; rfl, ?_⟩
  rw [step_rdData h₃ hcrst hcr, respBytes_of_full hlen, h0, h1, step_of_wrSp h₁ harst haw, loByte_eq_ofNat, hiByte_eq_ofNat]

/-! ## The Safety Monitor -/

/-- R83: no 12-bit reading is above 4095, and an empty mask monitors no channel. -/
theorem overTemp_of_maxTemp_ge {c : Params} {r : Regs} (h : 4095 ≤ r.maxTemp.toNat) : overTemp c r = false := by
  refine Bool.eq_false_iff.2 fun htrip => ?_
  obtain ⟨-, i, -, hlt⟩ := (overTemp_iff c r).1 htrip
  have hraw := (r.raw.get i).isLt
  omega

theorem overTemp_of_tempMask_zero {c : Params} (h : c.tempMask = 0) (r : Regs) : overTemp c r = false := by
  refine Bool.eq_false_iff.2 fun htrip => ?_
  obtain ⟨-, i, hmask, -⟩ := (overTemp_iff c r).1 htrip
  simp [maskBit, h] at hmask

/-- Settles O60: the comparator as R83 has it, and a step trips exactly when its control tick finds it true. -/
theorem comparatorIsStrictOverTheMonitoredChannels : Obligations.ComparatorIsStrictOverTheMonitoredChannels := by
  refine ⟨fun c r => ⟨overTemp_iff c r, overTemp_of_maxTemp_ge, fun hmask => overTemp_of_tempMask_zero hmask r⟩,
    fun s t h hrst => ?step⟩
  rw [step_tripNow h hrst, tripDue, controlTickDue, overTemp_iff, and_assoc]
  simp only [conversionEvent_regs_maxTemp, conversionEvent_raw_get, maskBit]

/-- R84, R14: whatever the request of the step does, a trip holds the pin at 0. -/
theorem step_heaterPin_of_tripDue {s t : State} (h : step s = .next t) (hrst : (sampleInputs s).rst = false)
    (htrip : tripDue (sampleInputs s) s) : t.out.heaterPin = false := by
  obtain ⟨hpin, -⟩ := step_outputs h hrst
  rw [hpin, heaterPinOf, if_pos ((step_tripNow h hrst).2 htrip)]

/-- R29, R30: what a step without a reset makes of the PWM counter and the drive. -/
theorem step_pwm {s t : State} (h : step s = .next t) (hn : NoReset (sampleInputs s)) :
    (PassDue (sampleInputs s) s → t.regs.heaterMode = .pwm →
      t.regs.pwmCounter.toNat = (s.regs.pwmCounter.toNat + 1) % 256 ∧
      (t.regs.swOut = true ↔ t.regs.pwmCounter.toNat < t.regs.pwmDuty.toNat)) ∧
    (¬ PassDue (sampleInputs s) s ∨ t.regs.heaterMode ≠ .pwm → t.regs.pwmCounter = s.regs.pwmCounter) ∧
    (PassDue (sampleInputs s) s → t.regs.heaterMode = .off → t.regs.swOut = false) ∧
    (¬ PassDue (sampleInputs s) s ∨ t.regs.heaterMode = .pid →
      (DriveForcedOff (sampleInputs s) s → t.regs.swOut = false) ∧
      (¬ DriveForcedOff (sampleInputs s) s → t.regs.swOut = s.regs.swOut)) := by
  obtain ⟨u, rfl, -, hwake, -, -, hcounter, -, hforced, hkept⟩ := step_slot h hn
  simp only [presentOutputs_regs, conversionRequest_regs_heaterMode, conversionRequest_regs_pwmCounter,
    conversionRequest_regs_pwmDuty, conversionRequest_regs_swOut, backgroundPass_regs_heaterMode,
    backgroundPass_regs_pwmDuty, ← hwake, ← hcounter, Bool.not_eq_true]
  refine ⟨fun hpass hmode => ?counted, backgroundPass_pwmCounter_of, backgroundPass_swOut_of_off, fun hno => ?held⟩
  case counted =>
    obtain ⟨hcount, hcompare⟩ := backgroundPass_of_pwm hpass hmode
    exact ⟨hcount, by rw [hcompare, hcount]⟩
  case held =>
    rw [backgroundPass_swOut_of hno]
    exact ⟨hforced, hkept⟩

/-- Settles O40: the trip of the step stands, since no request follows it, and its pass finds mode Off. -/
theorem overTemperatureForcesOff : Obligations.OverTemperatureForcesOff := by
  intro s t h hrst hreq htrip
  have hn := noReset_of_req_none hrst hreq
  obtain ⟨hmode, hflag⟩ := step_of_tripDue h hn (not_writesMode_of_req_none hreq) htrip
  obtain ⟨-, hcounter, hoff, hheld⟩ := step_pwm h hn
  obtain ⟨herr, hlast, hcmp⟩ := step_pid h hn
  obtain ⟨herr', hlast', hcmp'⟩ := beforeRequest_of_not_pidUpdateDue fun hpid => not_tripDue_of_pidUpdateDue hpid htrip
  obtain ⟨-, -, -, hdiv⟩ := step_filterBank h hn
  obtain ⟨-, -, hwrites⟩ := stepKeepsTheParameters s t h
  obtain ⟨-, hsp, -, hsens, -, hpwm, -, hmax⟩ := hwrites hn
  have hsw : t.regs.swOut = false := by
    by_cases hpass : PassDue (sampleInputs s) s
    · exact hoff hpass hmode
    · exact (hheld (.inl hpass)).1 (.inl htrip)
  exact ⟨hmode, hflag, hsw, step_heaterPin_of_tripDue h hrst htrip, hdiv.trans (dividerAfter_of_due htrip.1),
    hcmp.trans hcmp', hlast.trans hlast', herr.trans herr', hcounter (.inr (by simp [hmode])),
    hpwm fun _ => not_requests_of_none hreq _, hsp fun _ => not_requests_of_none hreq _,
    hsens fun _ _ => not_requests_of_none hreq _, hmax fun _ => not_requests_of_none hreq _⟩

/-- Settles O41: the write comes after the trip in the step, and the pin reads the step's signal. -/
theorem tripWinsThePinOverAModeWrite : Obligations.TripWinsThePinOverAModeWrite := by
  intro s t mode h hrst htrip hw
  obtain ⟨hmode, hflag⟩ := step_of_writesMode h hrst hw
  exact ⟨hmode, hflag, (step_tripNow h hrst).2 htrip, step_heaterPin_of_tripDue h hrst htrip⟩

/-- R85: what clears the trip flag, each in a step of its own. -/
theorem step_trip_cleared {s t : State} (h : step s = .next t) (hcause : (sampleInputs s).rst = true ∨
    requests (sampleInputs s) .srst ∨ ∃ mode, WritesMode (sampleInputs s) mode) : t.regs.trip = false := by
  by_cases hreset : (sampleInputs s).rst = true ∨ requests (sampleInputs s) .srst
  · rw [step_of_reset h hreset]
    rfl
  · obtain ⟨mode, hw⟩ := (or_assoc.2 hcause).resolve_left hreset
    exact (step_of_writesMode h (Bool.eq_false_iff.2 (not_or.1 hreset).1) hw).2

/-- R85: otherwise the flag is latched. -/
theorem step_trip_iff {s t : State} (h : step s = .next t) (hn : NoReset (sampleInputs s))
    (hw : ∀ mode, ¬ WritesMode (sampleInputs s) mode) :
    t.regs.trip = true ↔ s.regs.trip = true ∨ tripDue (sampleInputs s) s := by
  by_cases htrip : tripDue (sampleInputs s) s
  · simp [step_of_tripDue h hn hw htrip, htrip]
  · simp [step_of_not_tripDue h hn hw htrip, htrip]

/-- Settles O42: a step that holds one of the three causes clears the flag, and any other latches it. -/
theorem tripStaysLatched : Obligations.TripStaysLatched := by
  intro s t h
  by_cases hcause : (sampleInputs s).rst = true ∨ requests (sampleInputs s) .srst ∨ ∃ mode, WritesMode (sampleInputs s) mode
  · have hclear := step_trip_cleared h hcause
    exact ⟨fun _ _ => hcause, fun _ => hclear, fun _ hset => absurd (hset.symm.trans hclear) Bool.noConfusion,
      fun hn hw _ => absurd hcause (by simp [hn.1, hn.2, hw])⟩
  · obtain ⟨hrst, hrest⟩ := not_or.1 hcause
    obtain ⟨hsrst, hw⟩ := not_or.1 hrest
    have hlatch := step_trip_iff h ⟨Bool.eq_false_iff.2 hrst, hsrst⟩ (not_exists.1 hw)
    refine ⟨fun hset hclear => ?_, fun hcause' => absurd hcause' hcause, fun hclear hset => ?_, fun _ _ htrip => hlatch.2 (.inr htrip)⟩
    · exact absurd ((hlatch.2 (.inl hset)).symm.trans hclear) Bool.noConfusion
    · exact (hlatch.1 hset).resolve_left (by simp [hclear])

/-- Settles O43: the comparator of a step reads the threshold before its request. -/
theorem disabledInterlockNeverTrips : Obligations.DisabledInterlockNeverTrips := by
  refine ⟨fun _ _ => overTemp_of_maxTemp_zero, fun s t h hmax => ?step, fun s => exec_wrMax_some 0 s⟩
  cases hrst : (sampleInputs s).rst
  · refine Bool.eq_false_iff.2 fun hnow => ?_
    have htrip := (step_tripNow h hrst).1 hnow
    have hfalse : overTemp s.cfg (conversionEvent (sampleInputs s) s).regs = false :=
      overTemp_of_maxTemp_zero (by simp [hmax])
    exact absurd (htrip.2.symm.trans hfalse) Bool.noConfusion
  · obtain rfl := step_of_rst h hrst
    rfl

/-- R81: from 0, the ticks below TICK_DIV_M only count. -/
theorem iterate_timerTick {s : State} (hlegal : s.cfg.legal = true) (hdiv : s.regs.tickDiv = 0) {n : Nat}
    (hn : n < s.cfg.tickDivM) :
    timerTick^[n] s = { s with regs := { s.regs with tickDiv := BitVec.ofNat 16 n } } := by
  obtain ⟨-, -, -, -, -, -, -, hmax, -⟩ := (legal_iff s.cfg).1 hlegal
  induction n with
  | zero =>
    show s = { s with regs := { s.regs with tickDiv := 0 } }
    rw [← hdiv]
  | succ n ih =>
    have hvalue : (BitVec.ofNat 16 n).toNat = n := by
      rw [BitVec.toNat_ofNat, Nat.mod_eq_of_lt (by omega)]
    rw [Function.iterate_succ_apply', ih (by omega)]
    simp only [timerTick, hvalue, if_neg (show n + 1 ≠ s.cfg.tickDivM by omega)]

/-- Settles O44: the iterates count up to TICK_DIV_M - 1, where the next tick is a control tick that finds 0 again. -/
theorem dividerGivesEveryMthTick : Obligations.DividerGivesEveryMthTick := by
  refine ⟨fun s hlegal hdiv => ⟨fun n hn => iterate_timerTick hlegal hdiv hn, ?controlTick⟩, fun s t h hn => ?step⟩
  case controlTick =>
    obtain ⟨-, -, -, -, -, -, hmin, hmax, -⟩ := (legal_iff s.cfg).1 hlegal
    obtain ⟨m, hm⟩ := Nat.exists_eq_add_of_le' hmin
    have hvalue : (BitVec.ofNat 16 m).toNat = m := by
      rw [BitVec.toNat_ofNat, Nat.mod_eq_of_lt (by omega)]
    rw [hm, Function.iterate_succ_apply', iterate_timerTick hlegal hdiv (by omega)]
    simp only [timerTick, hvalue, hm, if_true, ← hdiv]
  case step =>
    obtain ⟨hlegal, -⟩ := step_cases h
    obtain ⟨-, -, -, hafter⟩ := step_filterBank h hn
    rw [hafter]
    exact ⟨fun htick => dividerAfter_of_no_tick htick s, fun htick hlt => toNat_dividerAfter hlegal htick hlt⟩

/-! ## The PID controller -/

/-- Settles O48: the update is that of the state which the step's control tick finds; nothing later writes its registers. -/
theorem pidStatePersistsAcrossModes : Obligations.PidStatePersistsAcrossModes := by
  intro s t h
  refine ⟨fun hrst hsrst hdue => ?kept, fun hn hdue r e sum hr he hsum => ?updated, fun hreset => ?reset⟩
  case kept =>
    obtain ⟨herr, hlast, hcmp⟩ := step_pid h ⟨hrst, hsrst⟩
    rw [herr, hlast, hcmp]
    exact beforeRequest_of_not_pidUpdateDue hdue
  case updated =>
    obtain ⟨herr, hlast, hcmp⟩ := step_pid h hn
    rw [beforeRequest_of_pidUpdateDue hdue] at herr hlast hcmp
    have hreading : r = (((monitored (sampleInputs s) s).regs.raw.get
        (monitored (sampleInputs s) s).regs.controlSensor.toFin).toNat : Int) := by
      simp [hr, conversionEvent_raw_get]
    refine ⟨fun hmin hmax => ?_, fun hout => ?_⟩
    · obtain ⟨es, o, hes, ho, e'⟩ := pidUpdate_of_inRange hreading (by simpa using hmin) (by simpa using hmax)
        (by simpa using he) (by simpa using hsum)
      rw [e'] at herr hlast hcmp
      rw [herr, hlast, hcmp]
      exact ⟨hes, by simpa using ho, rfl⟩
    · rw [pidUpdate_of_outOfRange (by simpa [hreading] using hout)] at herr hlast hcmp
      rw [herr, hlast, hcmp]
      simp
  case reset =>
    rw [step_of_reset h hreset]
    exact ⟨rfl, rfl, rfl⟩

/-! ## The heater actuator -/

/-- Settles O49: by the cases of a step: a reset, an accepted WR_MODE, else a trip or none. -/
theorem modeChangesOnlyByWriteTripOrReset : Obligations.ModeChangesOnlyByWriteTripOrReset := by
  intro s t h
  have hoff (hreset : (sampleInputs s).rst = true ∨ requests (sampleInputs s) .srst) : t.regs.heaterMode = .off := by
    rw [step_of_reset h hreset]
    rfl
  refine ⟨fun hrst => hoff (.inl hrst), fun hrst => ⟨fun mode hw => (step_of_writesMode h hrst hw).1,
    fun hsrst => hoff (.inr hsrst), fun hw hsrst => ⟨fun htrip => ?_, fun htrip => ?_⟩⟩⟩
  · exact (step_of_tripDue h ⟨hrst, hsrst⟩ hw htrip).1
  · exact (step_of_not_tripDue h ⟨hrst, hsrst⟩ hw htrip).1

/-- Settles O50: the pin is the arbiter's function of the state that the step leaves. -/
theorem arbiterSelectsOneDriver : Obligations.ArbiterSelectsOneDriver := by
  intro s t h hrst
  obtain ⟨hpin, hroute, hvalue⟩ := step_outputs h hrst
  refine ⟨fun htrip => ?_, fun htrip hmode => ?_, fun htrip hmode => ?_, ?_, hvalue, (step_tripNow h hrst).2,
    (step_tripNow h hrst).1⟩
  · rw [hpin, heaterPinOf, if_pos htrip]
  · rw [hpin, heaterPinOf, if_neg (by simp [htrip]), if_pos hmode]
  · rw [hpin, heaterPinOf, if_neg (by simp [htrip]), if_neg hmode]
  · rw [hroute, decide_eq_true_iff]

/-- R98, R131: the sequencer after a step, and the conversion request it has issued. -/
theorem step_sequencer {s t : State} (h : step s = .next t) (hn : NoReset (sampleInputs s)) :
    t.regs.bgWake = false ∧ t.regs.startReq = false ∧
    (t.out.adcStart = true ↔ s.regs.startReq = true ∨ PassDue (sampleInputs s) s) ∧
    (t.out.adcStart = false → t.regs.skipLatched = s.regs.skipLatched) ∧
    (t.out.adcStart = true → t.out.adcSkip = skipMask s.cfg t.regs ∧ t.regs.skipLatched = t.out.adcSkip) := by
  obtain ⟨u, rfl, hcfg, hwake, hstart, hskip, -, hadc, -, -⟩ := step_slot h hn
  have hissued : (conversionRequest (backgroundPass u)).out.adcStart = (backgroundPass u).regs.startReq := by simp [hadc]
  refine ⟨by simp, by simp, ?_, fun hnot => ?_, fun hissue => ?_⟩
  · simp [hadc, hstart, ← hwake]
  · have hno := conversionRequest_of_not_startReq (hissued.symm.trans hnot)
    simp [hno, hskip]
  · obtain ⟨hsent, hlatched⟩ := conversionRequest_of_startReq (hissued.symm.trans hissue)
    refine ⟨hsent.trans ?_, hlatched.trans hsent.symm⟩
    simp [skipMask, hcfg]

/-- Settles O53: the sequencer's laws, with the pass due by a wake or a conversion. -/
theorem sequencerIsIdleAfterEveryStep : Obligations.SequencerIsIdleAfterEveryStep :=
  fun _ _ h hrst hsrst => step_sequencer h ⟨hrst, hsrst⟩

/-- Settles O51: without tick and request the step keeps the mode, and its pass and its request are those of the sequencer. -/
theorem conversionStepMakesOnePass : Obligations.ConversionStepMakesOnePass := by
  refine ⟨fun s t h ⟨hrst, htick, _, hreq⟩ hconv => ?_, fun s t => step_pwm⟩
  have hn := noReset_of_req_none hrst hreq
  have hdue : ¬ controlTickDue (sampleInputs s) s := fun hdue => absurd (hdue.1.symm.trans htick) Bool.noConfusion
  have hpass : PassDue (sampleInputs s) s := .inr hconv
  have hforced : ¬ DriveForcedOff (sampleInputs s) s := fun hoff =>
    hoff.elim (fun htrip => hdue htrip.1) fun ⟨mode, hw⟩ => not_writesMode_of_req_none hreq mode hw
  obtain ⟨hmode, hflag⟩ := step_of_not_tripDue h hn (not_writesMode_of_req_none hreq) fun htrip => hdue htrip.1
  obtain ⟨hraw, hacc, hfilt, hdiv⟩ := step_filterBank h hn
  obtain ⟨herr, hlast, hcmp⟩ := (pidStatePersistsAcrossModes s t h).1 hrst hn.2 fun hpid => hdue hpid.1
  obtain ⟨hwake, hstart, hissued, -, hmask⟩ := step_sequencer h hn
  obtain ⟨hsent, hlatched⟩ := hmask (hissued.2 (.inr hpass))
  obtain ⟨hlen, h0, h1⟩ := step_keeps_response h hrst hreq
  obtain ⟨-, -, hwrites⟩ := stepKeepsTheParameters s t h
  obtain ⟨-, hsp, -, hsens, -, hpwm, -, hmax⟩ := hwrites hn
  have hduty := hpwm fun _ => not_requests_of_none hreq _
  obtain ⟨hcounted, hcounter, hoff, hheld⟩ := step_pwm h hn
  rw [hmode, hduty] at hcounted
  rw [hmode] at hcounter hoff hheld
  refine ⟨hcounted hpass, fun hm => ⟨hcounter (.inr (by simp [hm])), hoff hpass hm⟩,
    fun hm => ⟨hcounter (.inr (by simp [hm])), (hheld (.inr hm)).2 hforced⟩, hwake, hstart, hissued.2 (.inr hpass), ?mask,
    hlatched, hmode, hsp fun _ => not_requests_of_none hreq _, hsens fun _ _ => not_requests_of_none hreq _, hduty,
    hmax fun _ => not_requests_of_none hreq _, hflag, herr, hlast, hcmp, hdiv.trans (dividerAfter_of_no_tick htick s),
    hlen, h0, h1, hraw, hacc, hfilt⟩
  case mask => rw [hsent, skipMask, hmode]

/-! ## The software PWM over a period -/

theorem inRange_of_conversionOnly {inp : Inputs} (h : ConversionOnly inp) (c : Params) : inp.inRange c = true := by
  obtain ⟨-, -, hread, hreq⟩ := h
  simp [Inputs.inRange, hread, hreq]

/-- R97: the first of a list of conversion steps in PWM mode completes, and what it does to the registers of the software PWM. -/
theorem step_of_conversions_pwm {s : State} (hlegal : s.cfg.legal = true) (hmode : s.regs.heaterMode = .pwm)
    (hlen : 0 < s.inputs.length) (hinputs : ∀ inp ∈ s.inputs, ConversionOnly inp ∧ inp.conv.isSome = true) :
    ∃ t, step s = .next t ∧ t.cfg = s.cfg ∧ t.inputs = s.inputs.tail ∧
      t.regs.heaterMode = .pwm ∧ t.regs.pwmDuty = s.regs.pwmDuty ∧
      t.regs.pwmCounter.toNat = (s.regs.pwmCounter.toNat + 1) % 256 ∧
      (t.regs.swOut = true ↔ t.regs.pwmCounter.toNat < s.regs.pwmDuty.toNat) := by
  obtain ⟨inp, rest, hcons⟩ := List.exists_cons_of_length_pos hlen
  obtain rfl := sampleInputs_of_cons hcons
  obtain ⟨honly, hconv⟩ := hinputs (sampleInputs s) (by simp [hcons])
  obtain ⟨t, h⟩ := step_completes hlegal (inRange_of_conversionOnly honly s.cfg)
  obtain ⟨hcfg, htail⟩ := step_cfg_inputs h
  obtain ⟨hpwm, -, -, -, -, -, -, -, hmode', -, -, hduty, -⟩ := conversionStepMakesOnePass.1 s t h honly hconv
  obtain ⟨hcount, hcompare⟩ := hpwm hmode
  exact ⟨t, h, hcfg, htail, hmode'.trans hmode, hduty, hcount, hcompare⟩

/-- R97: after `k + 1` conversion steps in PWM mode the drive compares a counter advanced by `k + 1`. -/
theorem run_conversions_swOut {s : State} {k : Nat} (hlegal : s.cfg.legal = true) (hmode : s.regs.heaterMode = .pwm)
    (hlen : k < s.inputs.length) (hinputs : ∀ inp ∈ s.inputs, ConversionOnly inp ∧ inp.conv.isSome = true) :
    ∃ t, Host.Core.run core (k + 1) s = .next t ∧
      (t.regs.swOut = true ↔ (s.regs.pwmCounter.toNat + 1 + k) % 256 < s.regs.pwmDuty.toNat) := by
  induction k generalizing s with
  | zero =>
    obtain ⟨t, h, -, -, -, -, hcount, hcompare⟩ := step_of_conversions_pwm hlegal hmode hlen hinputs
    exact ⟨t, run_succ h 0, by rw [hcompare, hcount, Nat.add_zero]⟩
  | succ k ih =>
    obtain ⟨t, h, hcfg, htail, hmode', hduty, hcount, -⟩ :=
      step_of_conversions_pwm hlegal hmode (Nat.zero_lt_of_lt hlen) hinputs
    have hlen' : k < t.inputs.length := by
      rw [htail, List.length_tail]
      omega
    obtain ⟨u, hrun, hcompare⟩ := ih (hcfg ▸ hlegal) hmode' hlen' fun inp hinp =>
      hinputs inp (List.mem_of_mem_tail (htail ▸ hinp))
    refine ⟨u, (run_succ h (k + 1)).trans hrun, hcompare.trans ?_⟩
    rw [hcount, hduty]
    omega

/-- Over one period from any start, as many counter values lie below `d` as from 0, which is `d`. -/
theorem count_period_lt {d : Nat} (hd : d ≤ 256) (c : Nat) : Nat.count (fun k => (c + k) % 256 < d) 256 = d := by
  have hlow : Nat.count (fun n => n % 256 < d) d = d :=
    Nat.count_of_forall fun n hn => (Nat.mod_le n 256).trans_lt hn
  have hhigh : Nat.count (fun n => (d + n) % 256 < d) (256 - d) = 0 := Nat.count_of_forall_not fun n hn => by
    rw [Nat.mod_eq_of_lt (by omega)]
    omega
  have hperiod : Nat.count (fun n => n % 256 < d) 256 = d := by
    rw [← Nat.add_sub_cancel' hd, Nat.count_add]
    simp only [Nat.add_sub_cancel' hd, hlow, hhigh, Nat.add_zero]
  have hfromStart := Nat.count_add (fun n => n % 256 < d) c 256
  have hfromPeriod := Nat.count_add (fun n => n % 256 < d) 256 c
  simp only [Nat.add_mod_left] at hfromPeriod
  rw [Nat.add_comm 256 c] at hfromPeriod
  omega

/-- Settles O52: the drive of each step is a comparison, and the 256 of them run over one period of the counter. -/
theorem softwarePwmMeetsItsDuty : Obligations.SoftwarePwmMeetsItsDuty := by
  intro s hlegal hmode hlen hinputs
  have hduty : s.regs.pwmDuty.toNat ≤ 256 := Nat.le_of_lt s.regs.pwmDuty.isLt
  rw [← count_period_lt hduty (s.regs.pwmCounter.toNat + 1), Nat.count]
  refine List.countP_congr fun k hk => ?_
  obtain ⟨t, hrun, hcompare⟩ := run_conversions_swOut hlegal hmode (hlen ▸ List.mem_range.1 hk) hinputs
  simp only [hrun, hcompare, decide_eq_true_iff]

/-! ## The pin -/

/-- Settles O59: an asserted pin is the arbiter's choice without a trip, and in mode Off a good state's drive is de-asserted. -/
theorem assertedPinMeansNoTripAndNotOff : Obligations.AssertedPinMeansNoTripAndNotOff := by
  intro s t hgood h hpin
  have hgood' := stepKeepsTheInvariants s t hgood h
  cases hrst : (sampleInputs s).rst
  · obtain ⟨htripPin, -, hdriven, -⟩ := arbiterSelectsOneDriver s t h hrst
    have hnow : t.out.tripNow = false := Bool.eq_false_iff.2 fun htrip =>
      absurd (hpin.symm.trans (htripPin htrip)) Bool.noConfusion
    refine ⟨hnow, fun hmode => ?_⟩
    have hsw := hgood'.regs.swOut_off (by simp [hmode])
    exact absurd (hpin.symm.trans ((hdriven hnow (by simp [hmode])).trans hsw)) Bool.noConfusion
  · obtain rfl := step_of_rst h hrst
    exact absurd hpin Bool.noConfusion

/-- Settles O56: reset leaves `start_req` set and mode Off, which a step without a request keeps. -/
theorem firstStepAfterResetRequestsAConversion : Obligations.FirstStepAfterResetRequestsAConversion := by
  intro s t hregs h hrst hreq
  have hn := noReset_of_req_none hrst hreq
  have hw := not_writesMode_of_req_none hreq
  have hmode : t.regs.heaterMode = .off := by
    by_cases htrip : tripDue (sampleInputs s) s
    · exact (step_of_tripDue h hn hw htrip).1
    · rw [(step_of_not_tripDue h hn hw htrip).1, hregs]
      rfl
  obtain ⟨-, -, hissued, -, hmask⟩ := step_sequencer h hn
  have hadc : t.out.adcStart = true := hissued.2 (.inl (by rw [hregs]; rfl))
  have hgood : s.Good := by
    obtain ⟨hlegal, -⟩ := step_cases h
    exact ⟨hlegal, hregs ▸ good_resetFor hlegal⟩
  refine ⟨hadc, ?_, hmode, Bool.eq_false_iff.2 fun hpin => (assertedPinMeansNoTripAndNotOff s t hgood h hpin).2 hmode⟩
  rw [(hmask hadc).1, skipMask, if_neg (by simp [hmode])]

end Sys2Proof
end
